-- ==== Sys2Proof/Word.lean ====
section
/-! DEFINITION. The words of the unit's ports and the integer readings of a bit pattern
(00_scope.md R12 to R15, 10_state.md R58, R59). -/

namespace Sys2Proof

/-- A 64-bit port value: `XA`, `XB`, `XC`, `IMM`, `PC`, `XR`, `FVALUE`, `FPC` (10_state.md R58, R59). -/
abbrev Word := BitVec 64

/-- The 32-bit command word `CMD` (30_encoding.md R150). -/
abbrev Cmd := BitVec 32

/-- A vector port value: a container of 256 bits, the largest VLEN; bits at and above VLEN are no pins
(00_scope.md R11, log 2). -/
abbrev Vec := BitVec 256

/-- An exception set, a 5-bit mask: bit 0 I, 1 U, 2 O, 3 Z, 4 V (40_fp_arith.md R1004). -/
abbrev ExcSet := BitVec 5

/-- `bits_W(n)`: the W-bit pattern of `n` modulo `2^W` (00_scope.md R14). -/
abbrev bits (W : Nat) (n : Int) : BitVec W := BitVec.ofInt W n

end Sys2Proof
end

