-- ==== Sys2Proof/Config.lean ====
section
/-! DEFINITION. The implementation parameters of the unit (00_scope.md R11): named arguments of the model,
their legal values and their defaults. LAT is not here: it may differ per command and per operand value, so it is
the plain data `State.lats` (log 5). -/

namespace Sys2Proof

/-- When underflow tininess is detected (00_scope.md R11, 40_fp_arith.md R1007). -/
inductive Tininess where
  /-- on the result rounded with an unbounded exponent range -/
  | after
  /-- on the exact value -/
  | before
  deriving DecidableEq, Repr

/-- The parameters of 00_scope.md R11. -/
structure Params where
  /-- `VLEN`: vector operand and result width in bits. -/
  vlen : Nat
  /-- `NTLB`: number of TLB entries. -/
  ntlb : Nat
  /-- `PS`: page shift; a page is `2^PS` bytes. -/
  ps : Nat
  /-- `VALEN`: implemented virtual-address bits. -/
  valen : Nat
  /-- `PALEN`: implemented physical-address bits. -/
  palen : Nat
  /-- `ASIDBITS`: width of an ASID. -/
  asidBits : Nat
  /-- `TININESS`. -/
  tininess : Tininess
  deriving DecidableEq, Repr

/-- The legal values of every parameter, the table of 00_scope.md R11. -/
def Params.legal (c : Params) : Bool :=
  (c.vlen == 128 || c.vlen == 256)
    && [1, 2, 4, 8, 16, 32, 64, 128, 256, 512, 1024].contains c.ntlb
    && (12 ≤ c.ps && c.ps ≤ 30)
    && (c.ps + 1 ≤ c.valen && c.valen ≤ 64)
    && (c.ps + 1 ≤ c.palen && c.palen ≤ 64)
    && (1 ≤ c.asidBits && c.asidBits ≤ 16)

/-- The defaults of 00_scope.md R11. -/
def Params.default : Params where
  vlen := 128
  ntlb := 64
  ps := 12
  valen := 48
  palen := 48
  asidBits := 10
  tininess := .after

end Sys2Proof
end

