-- ==== Sys2Proof/Syntax.lean ====
section
/-! DEFINITION. The vocabulary of the commands and the commands themselves: one constructor of `Instr` per row of
spec/opcode_table.json (30_encoding.md R166). A command word has no operand bits (R152): every operand comes from a
port (R160), so no constructor has an argument. A constructor is its mnemonic with each dot dropped and the letter
after it capitalised. -/

namespace Sys2Proof

/-- The two floating-point formats (40_fp_arith.md R1000): `S` binary32, `D` binary64. -/
inductive Fmt where
  | S
  | D
  deriving DecidableEq, Repr

/-- The four rounding modes (10_state.md R55). -/
inductive RMode where
  /-- to nearest, ties to even -/
  | RNE
  /-- toward zero -/
  | RZ
  /-- toward plus infinity -/
  | RP
  /-- toward minus infinity -/
  | RM
  deriving DecidableEq, Repr

/-- How a lane is read as an integer (00_scope.md R15): signed or unsigned. -/
inductive Sign where
  | S
  | U
  deriving DecidableEq, Repr

/-- The six relations of the comparisons (41_fp_compare_convert.md R1201). -/
inductive Rel where
  | EQ
  | NE
  | LT
  | LE
  | GT
  | GE
  deriving DecidableEq, Repr

/-- The access kinds of a translation (20_memory.md R110). -/
inductive Access where
  | R
  | W
  | X
  deriving DecidableEq, Repr

/-- The privilege input (60_exceptions.md R2213): `U` is 0, user; `K` is 1, kernel. -/
inductive Priv where
  | U
  | K
  deriving DecidableEq, Repr

/-- The fields of a command word (30_encoding.md R150). -/
structure Fields where
  /-- `CMD[31:28]`: the engine -/
  unit : BitVec 4
  /-- `CMD[27:20]`: the operation within the engine -/
  op : BitVec 8
  /-- `CMD[19:16]`: format or lane width -/
  wid : BitVec 4
  /-- `CMD[15:14]`: sign combination, or IW for ftint and ffint -/
  sgn : BitVec 2
  /-- `CMD[13:11]`: rounding selection of ftint -/
  rnd : BitVec 3
  /-- `CMD[10:0]`: reserved -/
  rsv : BitVec 11
  deriving DecidableEq, Repr

/-- Every command of the unit (30_encoding.md R166). -/
inductive Instr where
  -- Floating-point arithmetic (40_fp_arith.md)
  | faddS
  | faddD
  | fsubS
  | fsubD
  | fmulS
  | fmulD
  | fdivS
  | fdivD
  | fmaddS
  | fmaddD
  | fminS
  | fminD
  | fmaxS
  | fmaxD
  | fminaS
  | fminaD
  | fmaxaS
  | fmaxaD
  | fclassS
  | fclassD
  -- Floating-point comparison and conversion (41_fp_compare_convert.md)
  | fcmpQeqS
  | fcmpQeqD
  | fcmpQneS
  | fcmpQneD
  | fcmpQltS
  | fcmpQltD
  | fcmpQleS
  | fcmpQleD
  | fcmpQgtS
  | fcmpQgtD
  | fcmpQgeS
  | fcmpQgeD
  | fcmpSeqS
  | fcmpSeqD
  | fcmpSneS
  | fcmpSneD
  | fcmpSltS
  | fcmpSltD
  | fcmpSleS
  | fcmpSleD
  | fcmpSgtS
  | fcmpSgtD
  | fcmpSgeS
  | fcmpSgeD
  | fcvtSD
  | fcvtDS
  | ftintWS
  | ftintrneWS
  | ftintrzWS
  | ftintrpWS
  | ftintrmWS
  | ftintLS
  | ftintrneLS
  | ftintrzLS
  | ftintrpLS
  | ftintrmLS
  | ftintWD
  | ftintrneWD
  | ftintrzWD
  | ftintrpWD
  | ftintrmWD
  | ftintLD
  | ftintrneLD
  | ftintrzLD
  | ftintrpLD
  | ftintrmLD
  | ffintSW
  | ffintSL
  | ffintDW
  | ffintDL
  -- SIMD lane-wise (42_simd_lanewise.md)
  | vaddB
  | vaddH
  | vaddW
  | vaddD
  | vaddQ
  | vsubB
  | vsubH
  | vsubW
  | vsubD
  | vsubQ
  | vsaddB
  | vsaddBu
  | vsaddH
  | vsaddHu
  | vsaddW
  | vsaddWu
  | vsaddD
  | vsaddDu
  | vssubB
  | vssubBu
  | vssubH
  | vssubHu
  | vssubW
  | vssubWu
  | vssubD
  | vssubDu
  | vavgB
  | vavgBu
  | vavgH
  | vavgHu
  | vavgW
  | vavgWu
  | vavgD
  | vavgDu
  | vavgrB
  | vavgrBu
  | vavgrH
  | vavgrHu
  | vavgrW
  | vavgrWu
  | vavgrD
  | vavgrDu
  | vabsdB
  | vabsdBu
  | vabsdH
  | vabsdHu
  | vabsdW
  | vabsdWu
  | vabsdD
  | vabsdDu
  | vabsdaccB
  | vabsdaccBu
  | vabsdaccH
  | vabsdaccHu
  | vabsdaccW
  | vabsdaccWu
  | vabsdaccD
  | vabsdaccDu
  -- SIMD minimum and maximum (43_simd_minmax.md)
  | vminB
  | vminBu
  | vminH
  | vminHu
  | vminW
  | vminWu
  | vminD
  | vminDu
  | vmaxB
  | vmaxBu
  | vmaxH
  | vmaxHu
  | vmaxW
  | vmaxWu
  | vmaxD
  | vmaxDu
  | vminiB
  | vminiBu
  | vminiH
  | vminiHu
  | vminiW
  | vminiWu
  | vminiD
  | vminiDu
  | vmaxiB
  | vmaxiBu
  | vmaxiH
  | vmaxiHu
  | vmaxiW
  | vmaxiWu
  | vmaxiD
  | vmaxiDu
  -- SIMD multiply (44_simd_multiply.md)
  | vmulB
  | vmulH
  | vmulW
  | vmulD
  | vmuhB
  | vmuhBu
  | vmuhH
  | vmuhHu
  | vmuhW
  | vmuhWu
  | vmuhD
  | vmuhDu
  | vmaddB
  | vmaddH
  | vmaddW
  | vmaddD
  | vmsubB
  | vmsubH
  | vmsubW
  | vmsubD
  -- SIMD widening multiply (45_simd_widening_multiply.md)
  | vmulwevHB
  | vmulwevHuBu
  | vmulwevHBuB
  | vmulwevWH
  | vmulwevWuHu
  | vmulwevWHuH
  | vmulwevDW
  | vmulwevDuWu
  | vmulwevDWuW
  | vmulwevQD
  | vmulwevQuDu
  | vmulwevQDuD
  | vmulwodHB
  | vmulwodHuBu
  | vmulwodHBuB
  | vmulwodWH
  | vmulwodWuHu
  | vmulwodWHuH
  | vmulwodDW
  | vmulwodDuWu
  | vmulwodDWuW
  | vmulwodQD
  | vmulwodQuDu
  | vmulwodQDuD
  | vmaddwevHB
  | vmaddwevHuBu
  | vmaddwevHBuB
  | vmaddwevWH
  | vmaddwevWuHu
  | vmaddwevWHuH
  | vmaddwevDW
  | vmaddwevDuWu
  | vmaddwevDWuW
  | vmaddwevQD
  | vmaddwevQuDu
  | vmaddwevQDuD
  | vmaddwodHB
  | vmaddwodHuBu
  | vmaddwodHBuB
  | vmaddwodWH
  | vmaddwodWuHu
  | vmaddwodWHuH
  | vmaddwodDW
  | vmaddwodDuWu
  | vmaddwodDWuW
  | vmaddwodQD
  | vmaddwodQuDu
  | vmaddwodQDuD
  | vmsubwevHB
  | vmsubwevHuBu
  | vmsubwevHBuB
  | vmsubwevWH
  | vmsubwevWuHu
  | vmsubwevWHuH
  | vmsubwevDW
  | vmsubwevDuWu
  | vmsubwevDWuW
  | vmsubwevQD
  | vmsubwevQuDu
  | vmsubwevQDuD
  | vmsubwodHB
  | vmsubwodHuBu
  | vmsubwodHBuB
  | vmsubwodWH
  | vmsubwodWuHu
  | vmsubwodWHuH
  | vmsubwodDW
  | vmsubwodDuWu
  | vmsubwodDWuW
  | vmsubwodQD
  | vmsubwodQuDu
  | vmsubwodQDuD
  -- SIMD widening add and subtract, narrowing (46_simd_widen_narrow.md)
  | vhaddwHB
  | vhaddwHuBu
  | vhaddwHBuB
  | vhaddwWH
  | vhaddwWuHu
  | vhaddwWHuH
  | vhaddwDW
  | vhaddwDuWu
  | vhaddwDWuW
  | vhaddwQD
  | vhaddwQuDu
  | vhaddwQDuD
  | vhsubwHB
  | vhsubwHuBu
  | vhsubwHBuB
  | vhsubwWH
  | vhsubwWuHu
  | vhsubwWHuH
  | vhsubwDW
  | vhsubwDuWu
  | vhsubwDWuW
  | vhsubwQD
  | vhsubwQuDu
  | vhsubwQDuD
  | vaddwevHB
  | vaddwevHuBu
  | vaddwevHBuB
  | vaddwevWH
  | vaddwevWuHu
  | vaddwevWHuH
  | vaddwevDW
  | vaddwevDuWu
  | vaddwevDWuW
  | vaddwevQD
  | vaddwevQuDu
  | vaddwevQDuD
  | vaddwodHB
  | vaddwodHuBu
  | vaddwodHBuB
  | vaddwodWH
  | vaddwodWuHu
  | vaddwodWHuH
  | vaddwodDW
  | vaddwodDuWu
  | vaddwodDWuW
  | vaddwodQD
  | vaddwodQuDu
  | vaddwodQDuD
  | vsubwevHB
  | vsubwevHuBu
  | vsubwevHBuB
  | vsubwevWH
  | vsubwevWuHu
  | vsubwevWHuH
  | vsubwevDW
  | vsubwevDuWu
  | vsubwevDWuW
  | vsubwevQD
  | vsubwevQuDu
  | vsubwevQDuD
  | vsubwodHB
  | vsubwodHuBu
  | vsubwodHBuB
  | vsubwodWH
  | vsubwodWuHu
  | vsubwodWHuH
  | vsubwodDW
  | vsubwodDuWu
  | vsubwodDWuW
  | vsubwodQD
  | vsubwodQuDu
  | vsubwodQDuD
  | vnarrowBH
  | vnarrowHW
  | vnarrowWD
  | vnarrowDQ
  | vnarrowsBH
  | vnarrowsHW
  | vnarrowsWD
  | vnarrowsDQ
  | vnarrowuBuHu
  | vnarrowuHuWu
  | vnarrowuWuDu
  | vnarrowuDuQu
  -- TLB (47_tlb.md)
  | tlblookupR
  | tlblookupW
  | tlblookupX
  | tlbfill
  | tlbprobe
  | tlbinvPage
  | tlbinvAsid
  | tlbinvGlobal
  | tlbinvAll
  -- CSR (48_csr.md)
  | csrrd
  | csrwr
  deriving DecidableEq, Repr

end Sys2Proof
end

