-- ==== Sys2Proof/WellFormed.lean ====
section
/-! DEFINITION. Which command words are commands, said field by field from the tables of 30_encoding.md R151 to
R158: the values every field may take once the fields before it are known. Decode.lean is written from the same
tables as a map to the commands; that the two agree is stated in Certificates/Slice0/Obligations.lean. -/

namespace Sys2Proof

/-- The values an operation accepts for WID, SGN (IW) and RND (30_encoding.md R153 to R158). -/
structure OpRow where
  wids : List Nat
  sgns : List Nat
  rnds : List Nat
  deriving DecidableEq, Repr

/-- The FPU table (30_encoding.md R153, R154). -/
def fpuRow (op : Nat) : Option OpRow :=
  if [0x01, 0x02, 0x03, 0x04, 0x05, 0x08, 0x09, 0x0A, 0x0B, 0x10, 0x20, 0x21, 0x22, 0x23, 0x24, 0x25,
      0x28, 0x29, 0x2A, 0x2B, 0x2C, 0x2D, 0x30].contains op then some ⟨[0, 1], [0], [0]⟩
  else if op = 0x31 then some ⟨[0, 1], [0, 1], [0, 1, 2, 3, 4]⟩
  else if op = 0x32 then some ⟨[0, 1], [0, 1], [0]⟩
  else none

/-- The SIMD table (30_encoding.md R155, R156). -/
def simdRow (op : Nat) : Option OpRow :=
  if 0x01 ≤ op ∧ op ≤ 0x02 then some ⟨[0, 1, 2, 3, 4], [0], [0]⟩
  else if 0x03 ≤ op ∧ op ≤ 0x0C then some ⟨[0, 1, 2, 3], [0, 1], [0]⟩
  else if op = 0x11 then some ⟨[0, 1, 2, 3], [0, 1], [0]⟩
  else if 0x10 ≤ op ∧ op ≤ 0x13 then some ⟨[0, 1, 2, 3], [0], [0]⟩
  else if 0x20 ≤ op ∧ op ≤ 0x2B then some ⟨[0, 1, 2, 3], [0, 1, 2], [0]⟩
  else if 0x30 ≤ op ∧ op ≤ 0x32 then some ⟨[1, 2, 3, 4], [0], [0]⟩
  else none

/-- The TLB table (30_encoding.md R157). -/
def tlbRow (op : Nat) : Option OpRow :=
  if [0x01, 0x02, 0x03, 0x08, 0x09, 0x10, 0x11, 0x12, 0x13].contains op then some ⟨[0], [0], [0]⟩ else none

/-- The CSR table (30_encoding.md R158). -/
def csrRow (op : Nat) : Option OpRow :=
  if [0x01, 0x02].contains op then some ⟨[0], [0], [0]⟩ else none

/-- UNIT selects the table (30_encoding.md R151); `none` for a reserved UNIT or OP. -/
def opRow (unit op : Nat) : Option OpRow :=
  if unit = 1 then fpuRow op
  else if unit = 2 then simdRow op
  else if unit = 3 then tlbRow op
  else if unit = 4 then csrRow op
  else none

/-- `CMD[10:0]` must be zero (30_encoding.md R152). -/
def Fields.reservedZero (f : Fields) : Bool := f.rsv == 0

/-- UNIT is 1, 2, 3 or 4 (30_encoding.md R151). -/
def Fields.unitLegal (f : Fields) : Bool := 1 ≤ f.unit.toNat && f.unit.toNat ≤ 4

/-- OP names an operation of the unit (30_encoding.md R153, R155, R157, R158). -/
def Fields.opLegal (f : Fields) : Bool := (opRow f.unit.toNat f.op.toNat).isSome

/-- WID is a value the operation accepts. -/
def Fields.widLegal (f : Fields) : Bool :=
  ((opRow f.unit.toNat f.op.toNat).map fun r => r.wids.contains f.wid.toNat).getD false

/-- SGN (IW) is a value the operation accepts. -/
def Fields.sgnLegal (f : Fields) : Bool :=
  ((opRow f.unit.toNat f.op.toNat).map fun r => r.sgns.contains f.sgn.toNat).getD false

/-- RND is a value the operation accepts. -/
def Fields.rndLegal (f : Fields) : Bool :=
  ((opRow f.unit.toNat f.op.toNat).map fun r => r.rnds.contains f.rnd.toNat).getD false

/-- The fields are those of a legal command (30_encoding.md R152). -/
def Fields.wellFormed (f : Fields) : Bool :=
  f.reservedZero && f.unitLegal && f.opLegal && f.widLegal && f.sgnLegal && f.rndLegal

end Sys2Proof
end

