-- ==== Sys2Proof/Decode.lean ====
section
/-! DEFINITION. Reading a command word (30_encoding.md R150 to R159), total on every 32-bit word and rejecting by name,
and after it the encoder, written from the same tables (R153 to R158). -/

namespace Sys2Proof

/-- Why a word is no command. Every one of them is the fault ILLEGAL_OP of the request (30_encoding.md R159). -/
inductive DecodeError where
  /-- `CMD[10:0]` is not zero (R152) -/
  | badReserved
  /-- UNIT 0 or 5 to 15 (R151) -/
  | badUnit
  /-- an OP the unit does not list (R153, R155, R157, R158) -/
  | badOp
  /-- a WID the operation does not accept -/
  | badWid
  /-- a SGN (IW) the operation does not accept -/
  | badSgn
  /-- a RND the operation does not accept -/
  | badRnd
  deriving DecidableEq, Repr

/-- The bit fields of a command word (30_encoding.md R150). -/
def Fields.ofCmd (w : Cmd) : Fields where
  unit := w.extractLsb' 28 4
  op := w.extractLsb' 20 8
  wid := w.extractLsb' 16 4
  sgn := w.extractLsb' 14 2
  rnd := w.extractLsb' 11 3
  rsv := w.extractLsb' 0 11

/-- The command at index `k` of a table row, or the error `e` past its end. -/
def pick (row : List Instr) (k : Nat) (e : DecodeError) : Except DecodeError Instr :=
  match row[k]? with
  | some i => .ok i
  | none => .error e

/-- A table indexed by SGN and then WID; RND must be zero. -/
def bySgnWid (f : Fields) (table : List (List Instr)) : Except DecodeError Instr :=
  if f.rnd = 0 then
    match table[f.sgn.toNat]? with
    | some row => pick row f.wid.toNat .badWid
    | none => .error .badSgn
  else .error .badRnd

/-- A table indexed by SGN (IW), then WID, then RND (ftint, 30_encoding.md R154). -/
def bySgnWidRnd (f : Fields) (table : List (List (List Instr))) : Except DecodeError Instr :=
  match table[f.sgn.toNat]? with
  | some rows =>
    match rows[f.wid.toNat]? with
    | some row => pick row f.rnd.toNat .badRnd
    | none => .error .badWid
  | none => .error .badSgn

/-- A row for WID = 1 and up; SGN and RND must be zero (the narrowing commands, 30_encoding.md R155). -/
def byWidFromOne (f : Fields) (row : List Instr) : Except DecodeError Instr :=
  if f.rnd = 0 then
    if f.sgn = 0 then
      if f.wid = 0 then .error .badWid else pick row (f.wid.toNat - 1) .badWid
    else .error .badSgn
  else .error .badRnd

/-- The FPU commands (30_encoding.md R153, R154). -/
def decodeFpu (f : Fields) : Except DecodeError Instr :=
  match f.op.toNat with
  | 0x01 => bySgnWid f [[.faddS, .faddD]]
  | 0x02 => bySgnWid f [[.fsubS, .fsubD]]
  | 0x03 => bySgnWid f [[.fmulS, .fmulD]]
  | 0x04 => bySgnWid f [[.fdivS, .fdivD]]
  | 0x05 => bySgnWid f [[.fmaddS, .fmaddD]]
  | 0x08 => bySgnWid f [[.fminS, .fminD]]
  | 0x09 => bySgnWid f [[.fmaxS, .fmaxD]]
  | 0x0A => bySgnWid f [[.fminaS, .fminaD]]
  | 0x0B => bySgnWid f [[.fmaxaS, .fmaxaD]]
  | 0x10 => bySgnWid f [[.fclassS, .fclassD]]
  | 0x20 => bySgnWid f [[.fcmpQeqS, .fcmpQeqD]]
  | 0x21 => bySgnWid f [[.fcmpQneS, .fcmpQneD]]
  | 0x22 => bySgnWid f [[.fcmpQltS, .fcmpQltD]]
  | 0x23 => bySgnWid f [[.fcmpQleS, .fcmpQleD]]
  | 0x24 => bySgnWid f [[.fcmpQgtS, .fcmpQgtD]]
  | 0x25 => bySgnWid f [[.fcmpQgeS, .fcmpQgeD]]
  | 0x28 => bySgnWid f [[.fcmpSeqS, .fcmpSeqD]]
  | 0x29 => bySgnWid f [[.fcmpSneS, .fcmpSneD]]
  | 0x2A => bySgnWid f [[.fcmpSltS, .fcmpSltD]]
  | 0x2B => bySgnWid f [[.fcmpSleS, .fcmpSleD]]
  | 0x2C => bySgnWid f [[.fcmpSgtS, .fcmpSgtD]]
  | 0x2D => bySgnWid f [[.fcmpSgeS, .fcmpSgeD]]
  | 0x30 => bySgnWid f [[.fcvtSD, .fcvtDS]]
  | 0x31 => bySgnWidRnd f
      [[[.ftintWS, .ftintrneWS, .ftintrzWS, .ftintrpWS, .ftintrmWS],
        [.ftintWD, .ftintrneWD, .ftintrzWD, .ftintrpWD, .ftintrmWD]],
       [[.ftintLS, .ftintrneLS, .ftintrzLS, .ftintrpLS, .ftintrmLS],
        [.ftintLD, .ftintrneLD, .ftintrzLD, .ftintrpLD, .ftintrmLD]]]
  | 0x32 => bySgnWid f [[.ffintSW, .ffintDW], [.ffintSL, .ffintDL]]
  | _ => .error .badOp

/-- The SIMD commands (30_encoding.md R155, R156). -/
def decodeSimd (f : Fields) : Except DecodeError Instr :=
  match f.op.toNat with
  | 0x01 => bySgnWid f [[.vaddB, .vaddH, .vaddW, .vaddD, .vaddQ]]
  | 0x02 => bySgnWid f [[.vsubB, .vsubH, .vsubW, .vsubD, .vsubQ]]
  | 0x03 => bySgnWid f [[.vsaddB, .vsaddH, .vsaddW, .vsaddD], [.vsaddBu, .vsaddHu, .vsaddWu, .vsaddDu]]
  | 0x04 => bySgnWid f [[.vssubB, .vssubH, .vssubW, .vssubD], [.vssubBu, .vssubHu, .vssubWu, .vssubDu]]
  | 0x05 => bySgnWid f [[.vavgB, .vavgH, .vavgW, .vavgD], [.vavgBu, .vavgHu, .vavgWu, .vavgDu]]
  | 0x06 => bySgnWid f [[.vavgrB, .vavgrH, .vavgrW, .vavgrD], [.vavgrBu, .vavgrHu, .vavgrWu, .vavgrDu]]
  | 0x07 => bySgnWid f [[.vabsdB, .vabsdH, .vabsdW, .vabsdD], [.vabsdBu, .vabsdHu, .vabsdWu, .vabsdDu]]
  | 0x08 => bySgnWid f [[.vabsdaccB, .vabsdaccH, .vabsdaccW, .vabsdaccD], [.vabsdaccBu, .vabsdaccHu, .vabsdaccWu, .vabsdaccDu]]
  | 0x09 => bySgnWid f [[.vminB, .vminH, .vminW, .vminD], [.vminBu, .vminHu, .vminWu, .vminDu]]
  | 0x0A => bySgnWid f [[.vmaxB, .vmaxH, .vmaxW, .vmaxD], [.vmaxBu, .vmaxHu, .vmaxWu, .vmaxDu]]
  | 0x0B => bySgnWid f [[.vminiB, .vminiH, .vminiW, .vminiD], [.vminiBu, .vminiHu, .vminiWu, .vminiDu]]
  | 0x0C => bySgnWid f [[.vmaxiB, .vmaxiH, .vmaxiW, .vmaxiD], [.vmaxiBu, .vmaxiHu, .vmaxiWu, .vmaxiDu]]
  | 0x10 => bySgnWid f [[.vmulB, .vmulH, .vmulW, .vmulD]]
  | 0x11 => bySgnWid f [[.vmuhB, .vmuhH, .vmuhW, .vmuhD], [.vmuhBu, .vmuhHu, .vmuhWu, .vmuhDu]]
  | 0x12 => bySgnWid f [[.vmaddB, .vmaddH, .vmaddW, .vmaddD]]
  | 0x13 => bySgnWid f [[.vmsubB, .vmsubH, .vmsubW, .vmsubD]]
  | 0x20 => bySgnWid f
      [[.vhaddwHB, .vhaddwWH, .vhaddwDW, .vhaddwQD],
       [.vhaddwHuBu, .vhaddwWuHu, .vhaddwDuWu, .vhaddwQuDu],
       [.vhaddwHBuB, .vhaddwWHuH, .vhaddwDWuW, .vhaddwQDuD]]
  | 0x21 => bySgnWid f
      [[.vhsubwHB, .vhsubwWH, .vhsubwDW, .vhsubwQD],
       [.vhsubwHuBu, .vhsubwWuHu, .vhsubwDuWu, .vhsubwQuDu],
       [.vhsubwHBuB, .vhsubwWHuH, .vhsubwDWuW, .vhsubwQDuD]]
  | 0x22 => bySgnWid f
      [[.vaddwevHB, .vaddwevWH, .vaddwevDW, .vaddwevQD],
       [.vaddwevHuBu, .vaddwevWuHu, .vaddwevDuWu, .vaddwevQuDu],
       [.vaddwevHBuB, .vaddwevWHuH, .vaddwevDWuW, .vaddwevQDuD]]
  | 0x23 => bySgnWid f
      [[.vaddwodHB, .vaddwodWH, .vaddwodDW, .vaddwodQD],
       [.vaddwodHuBu, .vaddwodWuHu, .vaddwodDuWu, .vaddwodQuDu],
       [.vaddwodHBuB, .vaddwodWHuH, .vaddwodDWuW, .vaddwodQDuD]]
  | 0x24 => bySgnWid f
      [[.vsubwevHB, .vsubwevWH, .vsubwevDW, .vsubwevQD],
       [.vsubwevHuBu, .vsubwevWuHu, .vsubwevDuWu, .vsubwevQuDu],
       [.vsubwevHBuB, .vsubwevWHuH, .vsubwevDWuW, .vsubwevQDuD]]
  | 0x25 => bySgnWid f
      [[.vsubwodHB, .vsubwodWH, .vsubwodDW, .vsubwodQD],
       [.vsubwodHuBu, .vsubwodWuHu, .vsubwodDuWu, .vsubwodQuDu],
       [.vsubwodHBuB, .vsubwodWHuH, .vsubwodDWuW, .vsubwodQDuD]]
  | 0x26 => bySgnWid f
      [[.vmulwevHB, .vmulwevWH, .vmulwevDW, .vmulwevQD],
       [.vmulwevHuBu, .vmulwevWuHu, .vmulwevDuWu, .vmulwevQuDu],
       [.vmulwevHBuB, .vmulwevWHuH, .vmulwevDWuW, .vmulwevQDuD]]
  | 0x27 => bySgnWid f
      [[.vmulwodHB, .vmulwodWH, .vmulwodDW, .vmulwodQD],
       [.vmulwodHuBu, .vmulwodWuHu, .vmulwodDuWu, .vmulwodQuDu],
       [.vmulwodHBuB, .vmulwodWHuH, .vmulwodDWuW, .vmulwodQDuD]]
  | 0x28 => bySgnWid f
      [[.vmaddwevHB, .vmaddwevWH, .vmaddwevDW, .vmaddwevQD],
       [.vmaddwevHuBu, .vmaddwevWuHu, .vmaddwevDuWu, .vmaddwevQuDu],
       [.vmaddwevHBuB, .vmaddwevWHuH, .vmaddwevDWuW, .vmaddwevQDuD]]
  | 0x29 => bySgnWid f
      [[.vmaddwodHB, .vmaddwodWH, .vmaddwodDW, .vmaddwodQD],
       [.vmaddwodHuBu, .vmaddwodWuHu, .vmaddwodDuWu, .vmaddwodQuDu],
       [.vmaddwodHBuB, .vmaddwodWHuH, .vmaddwodDWuW, .vmaddwodQDuD]]
  | 0x2A => bySgnWid f
      [[.vmsubwevHB, .vmsubwevWH, .vmsubwevDW, .vmsubwevQD],
       [.vmsubwevHuBu, .vmsubwevWuHu, .vmsubwevDuWu, .vmsubwevQuDu],
       [.vmsubwevHBuB, .vmsubwevWHuH, .vmsubwevDWuW, .vmsubwevQDuD]]
  | 0x2B => bySgnWid f
      [[.vmsubwodHB, .vmsubwodWH, .vmsubwodDW, .vmsubwodQD],
       [.vmsubwodHuBu, .vmsubwodWuHu, .vmsubwodDuWu, .vmsubwodQuDu],
       [.vmsubwodHBuB, .vmsubwodWHuH, .vmsubwodDWuW, .vmsubwodQDuD]]
  | 0x30 => byWidFromOne f [.vnarrowBH, .vnarrowHW, .vnarrowWD, .vnarrowDQ]
  | 0x31 => byWidFromOne f [.vnarrowsBH, .vnarrowsHW, .vnarrowsWD, .vnarrowsDQ]
  | 0x32 => byWidFromOne f [.vnarrowuBuHu, .vnarrowuHuWu, .vnarrowuWuDu, .vnarrowuDuQu]
  | _ => .error .badOp

/-- The TLB commands (30_encoding.md R157). -/
def decodeTlb (f : Fields) : Except DecodeError Instr :=
  match f.op.toNat with
  | 0x01 => bySgnWid f [[.tlblookupR]]
  | 0x02 => bySgnWid f [[.tlblookupW]]
  | 0x03 => bySgnWid f [[.tlblookupX]]
  | 0x08 => bySgnWid f [[.tlbfill]]
  | 0x09 => bySgnWid f [[.tlbprobe]]
  | 0x10 => bySgnWid f [[.tlbinvPage]]
  | 0x11 => bySgnWid f [[.tlbinvAsid]]
  | 0x12 => bySgnWid f [[.tlbinvGlobal]]
  | 0x13 => bySgnWid f [[.tlbinvAll]]
  | _ => .error .badOp

/-- The CSR commands (30_encoding.md R158). -/
def decodeCsr (f : Fields) : Except DecodeError Instr :=
  match f.op.toNat with
  | 0x01 => bySgnWid f [[.csrrd]]
  | 0x02 => bySgnWid f [[.csrwr]]
  | _ => .error .badOp

/-- The command of a word's fields (30_encoding.md R151, R152). -/
def decodeFields (f : Fields) : Except DecodeError Instr :=
  if f.rsv = 0 then
    match f.unit.toNat with
    | 1 => decodeFpu f
    | 2 => decodeSimd f
    | 3 => decodeTlb f
    | 4 => decodeCsr f
    | _ => .error .badUnit
  else .error .badReserved

/-- The command of a word, or why there is none (30_encoding.md R159). -/
def decode (w : Cmd) : Except DecodeError Instr := decodeFields (Fields.ofCmd w)

/-- FPU fields: OP, WID, SGN (IW), RND (30_encoding.md R153, R154). -/
def fpuFields (op wid sgn rnd : Nat) : Fields :=
  ⟨1, BitVec.ofNat 8 op, BitVec.ofNat 4 wid, BitVec.ofNat 2 sgn, BitVec.ofNat 3 rnd, 0⟩

/-- SIMD fields: OP, WID, SGN (30_encoding.md R155, R156). -/
def simdFields (op wid sgn : Nat) : Fields :=
  ⟨2, BitVec.ofNat 8 op, BitVec.ofNat 4 wid, BitVec.ofNat 2 sgn, 0, 0⟩

/-- TLB fields: OP (30_encoding.md R157). -/
def tlbFields (op : Nat) : Fields := ⟨3, BitVec.ofNat 8 op, 0, 0, 0, 0⟩

/-- CSR fields: OP (30_encoding.md R158). -/
def csrFields (op : Nat) : Fields := ⟨4, BitVec.ofNat 8 op, 0, 0, 0, 0⟩

/-- The fields of every command, the tables of 30_encoding.md R153 to R158 read the other way. -/
def Instr.fields : Instr → Fields
  | .faddS => fpuFields 0x01 0 0 0
  | .faddD => fpuFields 0x01 1 0 0
  | .fsubS => fpuFields 0x02 0 0 0
  | .fsubD => fpuFields 0x02 1 0 0
  | .fmulS => fpuFields 0x03 0 0 0
  | .fmulD => fpuFields 0x03 1 0 0
  | .fdivS => fpuFields 0x04 0 0 0
  | .fdivD => fpuFields 0x04 1 0 0
  | .fmaddS => fpuFields 0x05 0 0 0
  | .fmaddD => fpuFields 0x05 1 0 0
  | .fminS => fpuFields 0x08 0 0 0
  | .fminD => fpuFields 0x08 1 0 0
  | .fmaxS => fpuFields 0x09 0 0 0
  | .fmaxD => fpuFields 0x09 1 0 0
  | .fminaS => fpuFields 0x0A 0 0 0
  | .fminaD => fpuFields 0x0A 1 0 0
  | .fmaxaS => fpuFields 0x0B 0 0 0
  | .fmaxaD => fpuFields 0x0B 1 0 0
  | .fclassS => fpuFields 0x10 0 0 0
  | .fclassD => fpuFields 0x10 1 0 0
  | .fcmpQeqS => fpuFields 0x20 0 0 0
  | .fcmpQeqD => fpuFields 0x20 1 0 0
  | .fcmpQneS => fpuFields 0x21 0 0 0
  | .fcmpQneD => fpuFields 0x21 1 0 0
  | .fcmpQltS => fpuFields 0x22 0 0 0
  | .fcmpQltD => fpuFields 0x22 1 0 0
  | .fcmpQleS => fpuFields 0x23 0 0 0
  | .fcmpQleD => fpuFields 0x23 1 0 0
  | .fcmpQgtS => fpuFields 0x24 0 0 0
  | .fcmpQgtD => fpuFields 0x24 1 0 0
  | .fcmpQgeS => fpuFields 0x25 0 0 0
  | .fcmpQgeD => fpuFields 0x25 1 0 0
  | .fcmpSeqS => fpuFields 0x28 0 0 0
  | .fcmpSeqD => fpuFields 0x28 1 0 0
  | .fcmpSneS => fpuFields 0x29 0 0 0
  | .fcmpSneD => fpuFields 0x29 1 0 0
  | .fcmpSltS => fpuFields 0x2A 0 0 0
  | .fcmpSltD => fpuFields 0x2A 1 0 0
  | .fcmpSleS => fpuFields 0x2B 0 0 0
  | .fcmpSleD => fpuFields 0x2B 1 0 0
  | .fcmpSgtS => fpuFields 0x2C 0 0 0
  | .fcmpSgtD => fpuFields 0x2C 1 0 0
  | .fcmpSgeS => fpuFields 0x2D 0 0 0
  | .fcmpSgeD => fpuFields 0x2D 1 0 0
  | .fcvtSD => fpuFields 0x30 0 0 0
  | .fcvtDS => fpuFields 0x30 1 0 0
  | .ftintWS => fpuFields 0x31 0 0 0
  | .ftintrneWS => fpuFields 0x31 0 0 1
  | .ftintrzWS => fpuFields 0x31 0 0 2
  | .ftintrpWS => fpuFields 0x31 0 0 3
  | .ftintrmWS => fpuFields 0x31 0 0 4
  | .ftintLS => fpuFields 0x31 0 1 0
  | .ftintrneLS => fpuFields 0x31 0 1 1
  | .ftintrzLS => fpuFields 0x31 0 1 2
  | .ftintrpLS => fpuFields 0x31 0 1 3
  | .ftintrmLS => fpuFields 0x31 0 1 4
  | .ftintWD => fpuFields 0x31 1 0 0
  | .ftintrneWD => fpuFields 0x31 1 0 1
  | .ftintrzWD => fpuFields 0x31 1 0 2
  | .ftintrpWD => fpuFields 0x31 1 0 3
  | .ftintrmWD => fpuFields 0x31 1 0 4
  | .ftintLD => fpuFields 0x31 1 1 0
  | .ftintrneLD => fpuFields 0x31 1 1 1
  | .ftintrzLD => fpuFields 0x31 1 1 2
  | .ftintrpLD => fpuFields 0x31 1 1 3
  | .ftintrmLD => fpuFields 0x31 1 1 4
  | .ffintSW => fpuFields 0x32 0 0 0
  | .ffintSL => fpuFields 0x32 0 1 0
  | .ffintDW => fpuFields 0x32 1 0 0
  | .ffintDL => fpuFields 0x32 1 1 0
  | .vaddB => simdFields 0x01 0 0
  | .vaddH => simdFields 0x01 1 0
  | .vaddW => simdFields 0x01 2 0
  | .vaddD => simdFields 0x01 3 0
  | .vaddQ => simdFields 0x01 4 0
  | .vsubB => simdFields 0x02 0 0
  | .vsubH => simdFields 0x02 1 0
  | .vsubW => simdFields 0x02 2 0
  | .vsubD => simdFields 0x02 3 0
  | .vsubQ => simdFields 0x02 4 0
  | .vsaddB => simdFields 0x03 0 0
  | .vsaddBu => simdFields 0x03 0 1
  | .vsaddH => simdFields 0x03 1 0
  | .vsaddHu => simdFields 0x03 1 1
  | .vsaddW => simdFields 0x03 2 0
  | .vsaddWu => simdFields 0x03 2 1
  | .vsaddD => simdFields 0x03 3 0
  | .vsaddDu => simdFields 0x03 3 1
  | .vssubB => simdFields 0x04 0 0
  | .vssubBu => simdFields 0x04 0 1
  | .vssubH => simdFields 0x04 1 0
  | .vssubHu => simdFields 0x04 1 1
  | .vssubW => simdFields 0x04 2 0
  | .vssubWu => simdFields 0x04 2 1
  | .vssubD => simdFields 0x04 3 0
  | .vssubDu => simdFields 0x04 3 1
  | .vavgB => simdFields 0x05 0 0
  | .vavgBu => simdFields 0x05 0 1
  | .vavgH => simdFields 0x05 1 0
  | .vavgHu => simdFields 0x05 1 1
  | .vavgW => simdFields 0x05 2 0
  | .vavgWu => simdFields 0x05 2 1
  | .vavgD => simdFields 0x05 3 0
  | .vavgDu => simdFields 0x05 3 1
  | .vavgrB => simdFields 0x06 0 0
  | .vavgrBu => simdFields 0x06 0 1
  | .vavgrH => simdFields 0x06 1 0
  | .vavgrHu => simdFields 0x06 1 1
  | .vavgrW => simdFields 0x06 2 0
  | .vavgrWu => simdFields 0x06 2 1
  | .vavgrD => simdFields 0x06 3 0
  | .vavgrDu => simdFields 0x06 3 1
  | .vabsdB => simdFields 0x07 0 0
  | .vabsdBu => simdFields 0x07 0 1
  | .vabsdH => simdFields 0x07 1 0
  | .vabsdHu => simdFields 0x07 1 1
  | .vabsdW => simdFields 0x07 2 0
  | .vabsdWu => simdFields 0x07 2 1
  | .vabsdD => simdFields 0x07 3 0
  | .vabsdDu => simdFields 0x07 3 1
  | .vabsdaccB => simdFields 0x08 0 0
  | .vabsdaccBu => simdFields 0x08 0 1
  | .vabsdaccH => simdFields 0x08 1 0
  | .vabsdaccHu => simdFields 0x08 1 1
  | .vabsdaccW => simdFields 0x08 2 0
  | .vabsdaccWu => simdFields 0x08 2 1
  | .vabsdaccD => simdFields 0x08 3 0
  | .vabsdaccDu => simdFields 0x08 3 1
  | .vminB => simdFields 0x09 0 0
  | .vminBu => simdFields 0x09 0 1
  | .vminH => simdFields 0x09 1 0
  | .vminHu => simdFields 0x09 1 1
  | .vminW => simdFields 0x09 2 0
  | .vminWu => simdFields 0x09 2 1
  | .vminD => simdFields 0x09 3 0
  | .vminDu => simdFields 0x09 3 1
  | .vmaxB => simdFields 0x0A 0 0
  | .vmaxBu => simdFields 0x0A 0 1
  | .vmaxH => simdFields 0x0A 1 0
  | .vmaxHu => simdFields 0x0A 1 1
  | .vmaxW => simdFields 0x0A 2 0
  | .vmaxWu => simdFields 0x0A 2 1
  | .vmaxD => simdFields 0x0A 3 0
  | .vmaxDu => simdFields 0x0A 3 1
  | .vminiB => simdFields 0x0B 0 0
  | .vminiBu => simdFields 0x0B 0 1
  | .vminiH => simdFields 0x0B 1 0
  | .vminiHu => simdFields 0x0B 1 1
  | .vminiW => simdFields 0x0B 2 0
  | .vminiWu => simdFields 0x0B 2 1
  | .vminiD => simdFields 0x0B 3 0
  | .vminiDu => simdFields 0x0B 3 1
  | .vmaxiB => simdFields 0x0C 0 0
  | .vmaxiBu => simdFields 0x0C 0 1
  | .vmaxiH => simdFields 0x0C 1 0
  | .vmaxiHu => simdFields 0x0C 1 1
  | .vmaxiW => simdFields 0x0C 2 0
  | .vmaxiWu => simdFields 0x0C 2 1
  | .vmaxiD => simdFields 0x0C 3 0
  | .vmaxiDu => simdFields 0x0C 3 1
  | .vmulB => simdFields 0x10 0 0
  | .vmulH => simdFields 0x10 1 0
  | .vmulW => simdFields 0x10 2 0
  | .vmulD => simdFields 0x10 3 0
  | .vmuhB => simdFields 0x11 0 0
  | .vmuhBu => simdFields 0x11 0 1
  | .vmuhH => simdFields 0x11 1 0
  | .vmuhHu => simdFields 0x11 1 1
  | .vmuhW => simdFields 0x11 2 0
  | .vmuhWu => simdFields 0x11 2 1
  | .vmuhD => simdFields 0x11 3 0
  | .vmuhDu => simdFields 0x11 3 1
  | .vmaddB => simdFields 0x12 0 0
  | .vmaddH => simdFields 0x12 1 0
  | .vmaddW => simdFields 0x12 2 0
  | .vmaddD => simdFields 0x12 3 0
  | .vmsubB => simdFields 0x13 0 0
  | .vmsubH => simdFields 0x13 1 0
  | .vmsubW => simdFields 0x13 2 0
  | .vmsubD => simdFields 0x13 3 0
  | .vmulwevHB => simdFields 0x26 0 0
  | .vmulwevHuBu => simdFields 0x26 0 1
  | .vmulwevHBuB => simdFields 0x26 0 2
  | .vmulwevWH => simdFields 0x26 1 0
  | .vmulwevWuHu => simdFields 0x26 1 1
  | .vmulwevWHuH => simdFields 0x26 1 2
  | .vmulwevDW => simdFields 0x26 2 0
  | .vmulwevDuWu => simdFields 0x26 2 1
  | .vmulwevDWuW => simdFields 0x26 2 2
  | .vmulwevQD => simdFields 0x26 3 0
  | .vmulwevQuDu => simdFields 0x26 3 1
  | .vmulwevQDuD => simdFields 0x26 3 2
  | .vmulwodHB => simdFields 0x27 0 0
  | .vmulwodHuBu => simdFields 0x27 0 1
  | .vmulwodHBuB => simdFields 0x27 0 2
  | .vmulwodWH => simdFields 0x27 1 0
  | .vmulwodWuHu => simdFields 0x27 1 1
  | .vmulwodWHuH => simdFields 0x27 1 2
  | .vmulwodDW => simdFields 0x27 2 0
  | .vmulwodDuWu => simdFields 0x27 2 1
  | .vmulwodDWuW => simdFields 0x27 2 2
  | .vmulwodQD => simdFields 0x27 3 0
  | .vmulwodQuDu => simdFields 0x27 3 1
  | .vmulwodQDuD => simdFields 0x27 3 2
  | .vmaddwevHB => simdFields 0x28 0 0
  | .vmaddwevHuBu => simdFields 0x28 0 1
  | .vmaddwevHBuB => simdFields 0x28 0 2
  | .vmaddwevWH => simdFields 0x28 1 0
  | .vmaddwevWuHu => simdFields 0x28 1 1
  | .vmaddwevWHuH => simdFields 0x28 1 2
  | .vmaddwevDW => simdFields 0x28 2 0
  | .vmaddwevDuWu => simdFields 0x28 2 1
  | .vmaddwevDWuW => simdFields 0x28 2 2
  | .vmaddwevQD => simdFields 0x28 3 0
  | .vmaddwevQuDu => simdFields 0x28 3 1
  | .vmaddwevQDuD => simdFields 0x28 3 2
  | .vmaddwodHB => simdFields 0x29 0 0
  | .vmaddwodHuBu => simdFields 0x29 0 1
  | .vmaddwodHBuB => simdFields 0x29 0 2
  | .vmaddwodWH => simdFields 0x29 1 0
  | .vmaddwodWuHu => simdFields 0x29 1 1
  | .vmaddwodWHuH => simdFields 0x29 1 2
  | .vmaddwodDW => simdFields 0x29 2 0
  | .vmaddwodDuWu => simdFields 0x29 2 1
  | .vmaddwodDWuW => simdFields 0x29 2 2
  | .vmaddwodQD => simdFields 0x29 3 0
  | .vmaddwodQuDu => simdFields 0x29 3 1
  | .vmaddwodQDuD => simdFields 0x29 3 2
  | .vmsubwevHB => simdFields 0x2A 0 0
  | .vmsubwevHuBu => simdFields 0x2A 0 1
  | .vmsubwevHBuB => simdFields 0x2A 0 2
  | .vmsubwevWH => simdFields 0x2A 1 0
  | .vmsubwevWuHu => simdFields 0x2A 1 1
  | .vmsubwevWHuH => simdFields 0x2A 1 2
  | .vmsubwevDW => simdFields 0x2A 2 0
  | .vmsubwevDuWu => simdFields 0x2A 2 1
  | .vmsubwevDWuW => simdFields 0x2A 2 2
  | .vmsubwevQD => simdFields 0x2A 3 0
  | .vmsubwevQuDu => simdFields 0x2A 3 1
  | .vmsubwevQDuD => simdFields 0x2A 3 2
  | .vmsubwodHB => simdFields 0x2B 0 0
  | .vmsubwodHuBu => simdFields 0x2B 0 1
  | .vmsubwodHBuB => simdFields 0x2B 0 2
  | .vmsubwodWH => simdFields 0x2B 1 0
  | .vmsubwodWuHu => simdFields 0x2B 1 1
  | .vmsubwodWHuH => simdFields 0x2B 1 2
  | .vmsubwodDW => simdFields 0x2B 2 0
  | .vmsubwodDuWu => simdFields 0x2B 2 1
  | .vmsubwodDWuW => simdFields 0x2B 2 2
  | .vmsubwodQD => simdFields 0x2B 3 0
  | .vmsubwodQuDu => simdFields 0x2B 3 1
  | .vmsubwodQDuD => simdFields 0x2B 3 2
  | .vhaddwHB => simdFields 0x20 0 0
  | .vhaddwHuBu => simdFields 0x20 0 1
  | .vhaddwHBuB => simdFields 0x20 0 2
  | .vhaddwWH => simdFields 0x20 1 0
  | .vhaddwWuHu => simdFields 0x20 1 1
  | .vhaddwWHuH => simdFields 0x20 1 2
  | .vhaddwDW => simdFields 0x20 2 0
  | .vhaddwDuWu => simdFields 0x20 2 1
  | .vhaddwDWuW => simdFields 0x20 2 2
  | .vhaddwQD => simdFields 0x20 3 0
  | .vhaddwQuDu => simdFields 0x20 3 1
  | .vhaddwQDuD => simdFields 0x20 3 2
  | .vhsubwHB => simdFields 0x21 0 0
  | .vhsubwHuBu => simdFields 0x21 0 1
  | .vhsubwHBuB => simdFields 0x21 0 2
  | .vhsubwWH => simdFields 0x21 1 0
  | .vhsubwWuHu => simdFields 0x21 1 1
  | .vhsubwWHuH => simdFields 0x21 1 2
  | .vhsubwDW => simdFields 0x21 2 0
  | .vhsubwDuWu => simdFields 0x21 2 1
  | .vhsubwDWuW => simdFields 0x21 2 2
  | .vhsubwQD => simdFields 0x21 3 0
  | .vhsubwQuDu => simdFields 0x21 3 1
  | .vhsubwQDuD => simdFields 0x21 3 2
  | .vaddwevHB => simdFields 0x22 0 0
  | .vaddwevHuBu => simdFields 0x22 0 1
  | .vaddwevHBuB => simdFields 0x22 0 2
  | .vaddwevWH => simdFields 0x22 1 0
  | .vaddwevWuHu => simdFields 0x22 1 1
  | .vaddwevWHuH => simdFields 0x22 1 2
  | .vaddwevDW => simdFields 0x22 2 0
  | .vaddwevDuWu => simdFields 0x22 2 1
  | .vaddwevDWuW => simdFields 0x22 2 2
  | .vaddwevQD => simdFields 0x22 3 0
  | .vaddwevQuDu => simdFields 0x22 3 1
  | .vaddwevQDuD => simdFields 0x22 3 2
  | .vaddwodHB => simdFields 0x23 0 0
  | .vaddwodHuBu => simdFields 0x23 0 1
  | .vaddwodHBuB => simdFields 0x23 0 2
  | .vaddwodWH => simdFields 0x23 1 0
  | .vaddwodWuHu => simdFields 0x23 1 1
  | .vaddwodWHuH => simdFields 0x23 1 2
  | .vaddwodDW => simdFields 0x23 2 0
  | .vaddwodDuWu => simdFields 0x23 2 1
  | .vaddwodDWuW => simdFields 0x23 2 2
  | .vaddwodQD => simdFields 0x23 3 0
  | .vaddwodQuDu => simdFields 0x23 3 1
  | .vaddwodQDuD => simdFields 0x23 3 2
  | .vsubwevHB => simdFields 0x24 0 0
  | .vsubwevHuBu => simdFields 0x24 0 1
  | .vsubwevHBuB => simdFields 0x24 0 2
  | .vsubwevWH => simdFields 0x24 1 0
  | .vsubwevWuHu => simdFields 0x24 1 1
  | .vsubwevWHuH => simdFields 0x24 1 2
  | .vsubwevDW => simdFields 0x24 2 0
  | .vsubwevDuWu => simdFields 0x24 2 1
  | .vsubwevDWuW => simdFields 0x24 2 2
  | .vsubwevQD => simdFields 0x24 3 0
  | .vsubwevQuDu => simdFields 0x24 3 1
  | .vsubwevQDuD => simdFields 0x24 3 2
  | .vsubwodHB => simdFields 0x25 0 0
  | .vsubwodHuBu => simdFields 0x25 0 1
  | .vsubwodHBuB => simdFields 0x25 0 2
  | .vsubwodWH => simdFields 0x25 1 0
  | .vsubwodWuHu => simdFields 0x25 1 1
  | .vsubwodWHuH => simdFields 0x25 1 2
  | .vsubwodDW => simdFields 0x25 2 0
  | .vsubwodDuWu => simdFields 0x25 2 1
  | .vsubwodDWuW => simdFields 0x25 2 2
  | .vsubwodQD => simdFields 0x25 3 0
  | .vsubwodQuDu => simdFields 0x25 3 1
  | .vsubwodQDuD => simdFields 0x25 3 2
  | .vnarrowBH => simdFields 0x30 1 0
  | .vnarrowHW => simdFields 0x30 2 0
  | .vnarrowWD => simdFields 0x30 3 0
  | .vnarrowDQ => simdFields 0x30 4 0
  | .vnarrowsBH => simdFields 0x31 1 0
  | .vnarrowsHW => simdFields 0x31 2 0
  | .vnarrowsWD => simdFields 0x31 3 0
  | .vnarrowsDQ => simdFields 0x31 4 0
  | .vnarrowuBuHu => simdFields 0x32 1 0
  | .vnarrowuHuWu => simdFields 0x32 2 0
  | .vnarrowuWuDu => simdFields 0x32 3 0
  | .vnarrowuDuQu => simdFields 0x32 4 0
  | .tlblookupR => tlbFields 0x01
  | .tlblookupW => tlbFields 0x02
  | .tlblookupX => tlbFields 0x03
  | .tlbfill => tlbFields 0x08
  | .tlbprobe => tlbFields 0x09
  | .tlbinvPage => tlbFields 0x10
  | .tlbinvAsid => tlbFields 0x11
  | .tlbinvGlobal => tlbFields 0x12
  | .tlbinvAll => tlbFields 0x13
  | .csrrd => csrFields 0x01
  | .csrwr => csrFields 0x02

/-- `CMD = (UNIT << 28) | (OP << 20) | (WID << 16) | (SGN << 14) | (RND << 11)`, with the reserved bits at the
bottom (30_encoding.md R150). -/
def Fields.toCmd (f : Fields) : Cmd :=
  (f.unit.setWidth 32 <<< 28) ||| (f.op.setWidth 32 <<< 20) ||| (f.wid.setWidth 32 <<< 16)
    ||| (f.sgn.setWidth 32 <<< 14) ||| (f.rnd.setWidth 32 <<< 11) ||| f.rsv.setWidth 32

/-- The command word of a command (30_encoding.md R166). -/
def encode (i : Instr) : Cmd := i.fields.toCmd

/-- The command the decoder reads from the word `w` of a table row of `nbits` bits; bits at and above `nbits` are zero.
A command word is exactly 32 bits (30_encoding.md R162). -/
def decodeTableWord (nbits w : Nat) : Option Instr :=
  (decode (BitVec.ofNat 32 (w % 2 ^ nbits))).toOption

end Sys2Proof
end

