-- ==== Sys2Proof/Machine/State.lean ====
section
/-! DEFINITION. The unit's state as plain data (10_state.md), its value after reset (70_reset_and_hazards.md R2301), and
the two ways a step can stop. The unit holds no register file, no program counter and no memory (R50 to R53, R100). -/

namespace Sys2Proof.Machine

/-- One TLB entry (10_state.md R62). The containers of VPN, ASID and PPN are wider than the fields; log 3. -/
structure TlbEntry where
  /-- `V`: the entry is valid -/
  v : Bool
  /-- `VPN`, VALEN - PS bits -/
  vpn : BitVec 64
  /-- `ASID`, ASIDBITS bits -/
  asid : BitVec 16
  /-- `G`: the ASID is ignored for matching -/
  g : Bool
  /-- `PPN`, PALEN - PS bits -/
  ppn : BitVec 64
  /-- `R`: read permitted -/
  r : Bool
  /-- `W`: write permitted -/
  w : Bool
  /-- `X`: instruction fetch permitted -/
  x : Bool
  /-- `U`: user access permitted -/
  u : Bool
  deriving DecidableEq, Repr

/-- The inputs of one request (10_state.md R58). -/
structure Request where
  cmd : Cmd
  va : Vec
  vb : Vec
  vc : Vec
  xa : Word
  xb : Word
  xc : Word
  imm : Word
  priv : Priv
  pc : Word
  deriving DecidableEq, Repr

/-- `STATUS` (10_state.md R59). -/
inductive Status where
  | OK
  | FAULT
  deriving DecidableEq, Repr

/-- The outputs of one response (10_state.md R59). -/
structure Response where
  status : Status
  vr : Vec
  xr : Word
  fcode : BitVec 8
  fvalue : Word
  fpc : Word
  deriving DecidableEq, Repr

/-- The inputs of one clock cycle: `rst`, and the request offered with `req_valid = 1`, if any (10_state.md R60,
70_reset_and_hazards.md R2300). -/
structure Cycle where
  rst : Bool
  req : Option Request
  deriving DecidableEq, Repr

/-- The seven faults a request can raise (60_exceptions.md R2200). Each is a response, not the end of a run (R2309). -/
inductive FaultCode where
  | illegalOp
  | priv
  | illegalImm
  | range
  | tlbMiss
  | tlbPerm
  | fpe
  deriving DecidableEq, Repr

/-- The selectors of the debug port (10_state.md R64). -/
inductive DbgSel where
  | fcsr
  | asid
  | rr
  | tlb (i : Nat)
  deriving DecidableEq, Repr

/-- The whole state: the unit's own (FCSR, ASID, TLB, RR), its request and response channels, and as plain data what the
outside does to it. INVENTORY.md lists every field with its rule and its reset value. -/
structure State where
  /-- the parameters of the unit, which no step changes (00_scope.md R11; log 1) -/
  cfg : Params
  /-- `FCSR` (R54) -/
  fcsr : BitVec 32
  /-- the ASID CSR (R61; log 3) -/
  asid : BitVec 16
  /-- `TLB[0 .. NTLB-1]` (R62) -/
  tlb : List TlbEntry
  /-- `RR`, the replacement pointer (R63; log 3) -/
  rr : Nat
  /-- the inputs sampled when the last request was accepted (R58, R60) -/
  req : Request
  /-- cycles left until the response of the request in flight; 0 when there is none (R60) -/
  busy : Nat
  /-- `resp_valid` in the last cycle (R60) -/
  respValid : Bool
  /-- the outputs of the last response, zero before the first (R59, 70_reset_and_hazards.md R2301; log 4) -/
  resp : Response
  /-- every response so far, newest first (R2309; log 13) -/
  responses : List Response
  /-- the inputs of the cycles to come, one entry each (log 6) -/
  inputs : List Cycle
  /-- `LAT - 1` of the requests to come, in the order they are accepted; 0 past its end (00_scope.md R11; log 5) -/
  lats : List Nat
  deriving DecidableEq, Repr

/-- Why a step stops. No command stops the unit: a fault of a command is a response (60_exceptions.md R2206). -/
inductive Fault where
  /-- Raised by a clock cycle of a unit whose parameters are outside the table of 00_scope.md R11, which describes no
  unit. Safe: no unit of the spec is such a one (log 14). -/
  | illegalParams
  deriving DecidableEq, Repr

/-- Why a command has no meaning. No arm of the dispatcher refuses. -/
inductive Refusal where
  /-- Raised by an arm of the dispatcher whose command has no meaning in the model yet; there is none. Safe: the model
  stops where the unit goes on. -/
  | notModelled (mnemonic : String)
  deriving DecidableEq, Repr

/-- What a meaning answers. -/
abbrev Result := Host.Outcome State Fault Refusal

/-- The fields of a TLB entry at reset: `V` is 0 and the others are don't-care (70_reset_and_hazards.md R2301), zero
here (log 9). -/
def TlbEntry.invalid : TlbEntry where
  v := false
  vpn := 0
  asid := 0
  g := false
  ppn := 0
  r := false
  w := false
  x := false
  u := false

/-- A request of zeros, the latch at reset (log 8). -/
def Request.zero : Request where
  cmd := 0
  va := 0
  vb := 0
  vc := 0
  xa := 0
  xb := 0
  xc := 0
  imm := 0
  priv := .U
  pc := 0

/-- The response outputs at reset (70_reset_and_hazards.md R2301). -/
def Response.zero : Response where
  status := .OK
  vr := 0
  xr := 0
  fcode := 0
  fvalue := 0
  fpc := 0

/-- The reset state of a unit with the parameters `c` (70_reset_and_hazards.md R2301). -/
def State.resetWith (c : Params) : State where
  cfg := c
  fcsr := 0
  asid := 0
  tlb := List.replicate c.ntlb TlbEntry.invalid
  rr := 0
  req := Request.zero
  busy := 0
  respValid := false
  resp := Response.zero
  responses := []
  inputs := []
  lats := []

/-- The reset state of a unit with the default parameters (00_scope.md R11, 70_reset_and_hazards.md R2301; log 1). -/
def State.reset : State := State.resetWith Params.default

end Sys2Proof.Machine
end

