-- ==== Sys2Proof/Machine/Ops.lean ====
section
/-! DEFINITION. The operations every command shares: producing a response (10_state.md R59), raising a fault
(60_exceptions.md R2201 to R2205), and the request and response channels (10_state.md R60, 70_reset_and_hazards.md
R2300). The unit has no return from a fault (60_exceptions.md R2206), so there is none here. -/

namespace Sys2Proof.Machine

/-- `FCODE` of a fault (60_exceptions.md R2200). -/
def FaultCode.code : FaultCode → BitVec 8
  | .illegalOp => 0x01
  | .priv => 0x02
  | .illegalImm => 0x03
  | .range => 0x04
  | .tlbMiss => 0x05
  | .tlbPerm => 0x06
  | .fpe => 0x07

/-- Produces the response of the request in flight: `resp_valid = 1` in this cycle, and no request in flight after it
(10_state.md R60). -/
def respond (s : State) (r : Response) : State :=
  { s with busy := 0, respValid := true, resp := r, responses := r :: s.responses }

/-- The outputs of an OK response with a vector and a scalar result (10_state.md R59). -/
def okResponse (vr : Vec) (xr : Word) : Response where
  status := .OK
  vr := vr
  xr := xr
  fcode := 0
  fvalue := 0
  fpc := 0

/-- An OK response that writes `XR`; `VR` is zero (10_state.md R59). -/
def respondScalar (s : State) (xr : Word) : State := respond s (okResponse 0 xr)

/-- An OK response that writes `VR`; `XR` is zero (10_state.md R59). -/
def respondVec (s : State) (vr : Vec) : State := respond s (okResponse vr 0)

/-- The fault record (60_exceptions.md R2201). -/
def faultResponse (e : FaultCode) (v pc : Word) : Response where
  status := .FAULT
  vr := 0
  xr := 0
  fcode := e.code
  fvalue := v
  fpc := pc

/-- `raise E(v)` (60_exceptions.md R2204): the response carries the fault record and no state changes. Entering a trap
saves nothing, changes no mode and transfers control nowhere (R2205). -/
def raise (s : State) (e : FaultCode) (v : Word) : State := respond s (faultResponse e v s.req.pc)

/-- `req_ready` of a cycle in which `rst` is `rst` (10_state.md R60, 70_reset_and_hazards.md R2300). -/
def State.reqReady (s : State) (rst : Bool) : Bool := !rst && s.busy == 0

/-- The latency of the next request accepted (00_scope.md R11: at least 1). -/
def State.nextLat (s : State) : Nat := s.lats.headD 0 + 1

/-- Accepts a request: every input is sampled, and the response comes LAT cycles later (10_state.md R60). -/
def accept (s : State) (r : Request) : State :=
  { s with req := r, busy := s.nextLat, lats := s.lats.tail, respValid := false }

/-- A cycle in which the request in flight is not yet answered (10_state.md R60). -/
def wait (s : State) : State := { s with busy := s.busy - 1, respValid := false }

/-- A cycle with no request in flight and none offered. -/
def idle (s : State) : State := { s with respValid := false }

/-- A cycle with `rst = 1`: the unit's state is the reset state and a request in flight is abandoned
(70_reset_and_hazards.md R2300, R2301). What is to come from outside, and the record of the responses so far, are no
state of the unit and stay (log 7). -/
def applyReset (s : State) : State :=
  { State.resetWith s.cfg with inputs := s.inputs, lats := s.lats, responses := s.responses }

/-- A request in flight whose response is due in the next cycle, with no reset in that cycle. -/
def placeRequest (s : State) (r : Request) : State :=
  { s with
    req := r
    busy := 1
    inputs := match s.inputs with
      | [] => []
      | c :: cs => { c with rst := false } :: cs }

/-- The bit `b` at position `k` of a word. -/
def bitAt (b : Bool) (k : Nat) : Word := if b then (1 : Word) <<< k else 0

/-- The three words of `DBG_TLB` for an entry (10_state.md R64). -/
def TlbEntry.debugWords (ps : Nat) (e : TlbEntry) : List Word :=
  if e.v then
    [(e.vpn <<< ps) ||| (1 : Word),
     (e.ppn <<< ps) ||| bitAt e.g 4 ||| bitAt e.u 3 ||| bitAt e.x 2 ||| bitAt e.w 1 ||| bitAt e.r 0,
     e.asid.setWidth 64]
  else [0, 0, 0]

/-- The debug port (10_state.md R64): what a selector returns. It may be used when no request is in flight; `none`
otherwise (log 11). It returns words and no state, so it changes none. -/
def State.debugRead (s : State) (sel : DbgSel) : Option (List Word) :=
  if s.busy = 0 then
    some (match sel with
      | .fcsr => [s.fcsr.setWidth 64]
      | .asid => [s.asid.setWidth 64]
      | .rr => [BitVec.ofNat 64 s.rr]
      | .tlb i =>
        match s.tlb[i]? with
        | some e => e.debugWords s.cfg.ps
        | none => [0, 0, 0])
  else none

end Sys2Proof.Machine
end

