-- ==== Sys2Proof/Machine/Flags.lean ====
section
/-! DEFINITION. The exception sets and the fields of FCSR (10_state.md R54 to R57, 40_fp_arith.md R1004), and the end
of every FPU command (R1010). -/

namespace Sys2Proof.Machine

/-- `I`, inexact: bit 0 (40_fp_arith.md R1004). -/
def excI : ExcSet := 0b00001
/-- `U`, underflow: bit 1. -/
def excU : ExcSet := 0b00010
/-- `O`, overflow: bit 2. -/
def excO : ExcSet := 0b00100
/-- `Z`, division by zero: bit 3. -/
def excZ : ExcSet := 0b01000
/-- `V`, invalid operation: bit 4. -/
def excV : ExcSet := 0b10000
/-- The empty exception set. -/
def excNone : ExcSet := 0

/-- The set `e` when the condition holds, else the empty set. -/
def excIf (c : Bool) (e : ExcSet) : ExcSet := if c then e else excNone

/-- The writable bits of FCSR (10_state.md R54). -/
def fcsrMask : BitVec 32 := 0x1F1F031F

/-- `FCSR.ENABLES`, bits `[4:0]` (10_state.md R54, R57). -/
def enablesOf (f : BitVec 32) : ExcSet := f.extractLsb' 0 5

/-- `FCSR.FLAGS`, bits `[20:16]` (10_state.md R54, R56). -/
def flagsOf (f : BitVec 32) : ExcSet := f.extractLsb' 16 5

/-- `FCSR.CAUSE`, bits `[28:24]` (10_state.md R54, R57). -/
def causeOf (f : BitVec 32) : ExcSet := f.extractLsb' 24 5

/-- The rounding mode with code `n`: 0 RNE, 1 RZ, 2 RP, 3 RM (10_state.md R55). -/
def rmodeOfCode (n : BitVec 2) : RMode :=
  if n = 0 then .RNE else if n = 1 then .RZ else if n = 2 then .RP else .RM

/-- `FCSR.RM`, bits `[9:8]` (10_state.md R54, R55). -/
def rmOf (f : BitVec 32) : RMode := rmodeOfCode (f.extractLsb' 8 2)

/-- FCSR with CAUSE set to `e`. -/
def withCause (f : BitVec 32) (e : ExcSet) : BitVec 32 :=
  (f &&& (0xE0FFFFFF : BitVec 32)) ||| (e.setWidth 32 <<< 24)

/-- FCSR with `e` joined to FLAGS. -/
def withFlags (f : BitVec 32) (e : ExcSet) : BitVec 32 := f ||| (e.setWidth 32 <<< 16)

/-- `FPCOMMIT(result, exc)` (40_fp_arith.md R1010): CAUSE is written always; an enabled exception raises FPE with no
result and FLAGS unchanged, else FLAGS gathers the set and the result is returned. -/
def fpCommit (s : State) (r : Word × ExcSet) : Result :=
  if r.2 &&& enablesOf s.fcsr = 0 then
    .next (respondScalar { s with fcsr := withFlags (withCause s.fcsr r.2) r.2 } r.1)
  else
    .next (raise { s with fcsr := withCause s.fcsr r.2 } .fpe (r.2.setWidth 64))

end Sys2Proof.Machine
end

