-- ==== Sys2Proof/Machine/TlbOps.lean ====
section
/-! DEFINITION. The TLB: match rule, translation, fill placement and invalidation (20_memory.md R104, R107, R108, R110,
R111), and the checks of its commands in their order (47_tlb.md R2010, R2011). -/

namespace Sys2Proof.Machine

/-- `vpn(va) = va[VALEN-1:PS]` (20_memory.md R104). -/
def vpnOf (c : Params) (va : Word) : BitVec 64 := BitVec.ofNat 64 (va.toNat % 2 ^ c.valen / 2 ^ c.ps)

/-- `off(va) = va[PS-1:0]` (R104). -/
def offOf (c : Params) (va : Word) : Nat := va.toNat % 2 ^ c.ps

/-- The ASID operand `XB[ASIDBITS-1:0]`. -/
def asidOf (c : Params) (x : Word) : BitVec 16 := BitVec.ofNat 16 (x.toNat % 2 ^ c.asidBits)

/-- An ASID operand is below `2^ASIDBITS` (47_tlb.md R2011). -/
def asidInRange (c : Params) (x : Word) : Bool := x.toNat < 2 ^ c.asidBits

/-- The match rule (R107). -/
def TlbEntry.hits (e : TlbEntry) (asid : BitVec 16) (vpn : BitVec 64) : Bool :=
  e.v && e.vpn == vpn && (e.g || e.asid == asid)

/-- The index of the entry that matches, if any; with at most one (R109) it is the unique one (log 10). -/
def matchIndex (tlb : List TlbEntry) (asid : BitVec 16) (vpn : BitVec 64) : Option Nat :=
  tlb.findIdx? fun e => e.hits asid vpn

/-- The entry permits the access kind (R110). -/
def TlbEntry.permits (e : TlbEntry) (acc : Access) : Bool :=
  match acc with
  | .R => e.r
  | .W => e.w
  | .X => e.x

/-- The physical address `{PPN, va[PS-1:0]}` (R110, R111). -/
def physAddr (c : Params) (e : TlbEntry) (va : Word) : Word :=
  BitVec.ofNat 64 (e.ppn.toNat * 2 ^ c.ps + offOf c va)

/-- `translate(asid, va, acc, priv)` (R110). -/
def translate (c : Params) (tlb : List TlbEntry) (asid : BitVec 16) (va : Word) (acc : Access) (priv : Priv) :
    Except FaultCode Word :=
  match tlb.find? fun e => e.hits asid (vpnOf c va) with
  | none => .error .tlbMiss
  | some e =>
    if !e.permits acc then .error .tlbPerm
    else if priv == .U && !e.u then .error .tlbPerm
    else .ok (physAddr c e va)

/-- A fill descriptor's reserved bits `[PS-1:5]` and `[63:PALEN]` are zero (47_tlb.md R2010). -/
def descLegal (c : Params) (x : Word) : Bool :=
  x.toNat / 2 ^ 5 % 2 ^ (c.ps - 5) == 0 && x.toNat / 2 ^ c.palen == 0

/-- The entry a fill writes (47_tlb.md R2004). -/
def fillEntry (c : Params) (va asid desc : Word) : TlbEntry where
  v := true
  vpn := vpnOf c va
  asid := asidOf c asid
  g := desc.getLsbD 4
  ppn := BitVec.ofNat 64 (desc.toNat % 2 ^ c.palen / 2 ^ c.ps)
  r := desc.getLsbD 0
  w := desc.getLsbD 1
  x := desc.getLsbD 2
  u := desc.getLsbD 3

/-- The entry `e` is in the conflict set of the new entry `n` (R108). -/
def TlbEntry.conflicts (e n : TlbEntry) : Bool :=
  e.v && e.vpn == n.vpn && (e.g || n.g || e.asid == n.asid)

/-- The entry with `V` cleared, its other fields kept (R2009). -/
def TlbEntry.clear (e : TlbEntry) : TlbEntry := { e with v := false }

/-- Clears `V` of the entries that satisfy `p`, together (R2000). -/
def invalidateIf (p : TlbEntry → Bool) (tlb : List TlbEntry) : List TlbEntry :=
  tlb.map fun e => if p e then e.clear else e

/-- The slot a fill writes (R108): the lowest of the conflict set, else the lowest invalid one, else RR. -/
def fillSlot (tlb : List TlbEntry) (rr : Nat) (n : TlbEntry) : Nat :=
  match tlb.findIdx? fun e => e.conflicts n with
  | some i => i
  | none =>
    match tlb.findIdx? fun e => !e.v with
    | some i => i
    | none => rr

/-- The fill evicts by capacity: no conflict, and no invalid slot (R108, case 3). -/
def fillEvicts (tlb : List TlbEntry) (n : TlbEntry) : Bool := tlb.all fun e => !e.conflicts n && e.v

/-- The TLB after a fill (R108). -/
def fillTlb (tlb : List TlbEntry) (rr : Nat) (n : TlbEntry) : List TlbEntry :=
  (invalidateIf (fun e => e.conflicts n) tlb).set (fillSlot tlb rr n) n

/-- RR after a fill (R108): it advances on a capacity eviction only. -/
def fillRr (c : Params) (tlb : List TlbEntry) (rr : Nat) (n : TlbEntry) : Nat :=
  if fillEvicts tlb n then (rr + 1) % c.ntlb else rr

/-- Check 1 of R2011: the command needs `PRIV = K`, else PRIV with the command word. -/
def needKernel (s : State) (k : Result) : Result :=
  match s.req.priv with
  | .K => k
  | .U => .next (raise s .priv (s.req.cmd.setWidth 64))

/-- Check 2 of R2011: the ASID operand `XB` is in range, else RANGE with it. -/
def needAsid (s : State) (k : Result) : Result :=
  if asidInRange s.cfg s.req.xb then k else .next (raise s .range s.req.xb)

/-- Check 3 of R2011: the fill descriptor `XC` is legal, else RANGE with it. -/
def needDesc (s : State) (k : Result) : Result :=
  if descLegal s.cfg s.req.xc then k else .next (raise s .range s.req.xc)

/-- A lookup for the access kind `acc` (47_tlb.md R2001 to R2003). -/
def tlbLookup (acc : Access) (s : State) : Result :=
  needAsid s
    (match translate s.cfg s.tlb (asidOf s.cfg s.req.xb) s.req.xa acc s.req.priv with
    | .ok pa => .next (respondScalar s pa)
    | .error e => .next (raise s e s.req.xa))

/-- The end of an invalidation: the entries that satisfy `p` go, RR stays, `XR` is 0 (R2006 to R2009). -/
def tlbInvalidate (p : TlbEntry → Bool) (s : State) : Result :=
  .next (respondScalar { s with tlb := invalidateIf p s.tlb } 0)

end Sys2Proof.Machine
end

