-- ==== Sys2Proof/Machine/Csr.lean ====
section
/-! DEFINITION. The CSR commands (48_csr.md R2100 to R2103) and the CSR map (10_state.md R67). -/

namespace Sys2Proof.Machine

/-- The implemented CSRs (10_state.md R67). -/
inductive Csr where
  | fcsr
  | asid
  deriving DecidableEq, Repr

/-- The CSR with number `n`, `IMM[63:12]` being zero (48_csr.md R2102): 0x000 FCSR, 0x001 ASID. -/
def csrOf (n : Word) : Option Csr :=
  if n = 0x000 then some .fcsr else if n = 0x001 then some .asid else none

/-- The value of a CSR, zero-extended (R2100). -/
def State.csrValue (s : State) (c : Csr) : Word :=
  match c with
  | .fcsr => s.fcsr.setWidth 64
  | .asid => s.asid.setWidth 64

/-- Writes a CSR whose value has been checked (R2101). -/
def State.setCsr (s : State) (c : Csr) (x : Word) : State :=
  match c with
  | .fcsr => { s with fcsr := x.setWidth 32 }
  | .asid => { s with asid := asidOf s.cfg x }

/-- Check 2 of R2102: ASID needs `PRIV = K`; FCSR is open to both levels. -/
def csrAllowed (c : Csr) (p : Priv) : Bool :=
  match c with
  | .fcsr => true
  | .asid => p == .K

/-- Check 3 of R2102: a value is legal for the CSR (10_state.md R54, R61). -/
def csrValueLegal (cfg : Params) (c : Csr) (x : Word) : Bool :=
  match c with
  | .fcsr => x &&& ~~~(fcsrMask.setWidth 64) == 0
  | .asid => asidInRange cfg x

/-- Checks 1 and 2 of R2102, in their order: RANGE on the number, then PRIV, both with `IMM`. -/
def needCsr (s : State) (k : Csr → Result) : Result :=
  match csrOf s.req.imm with
  | none => .next (raise s .range s.req.imm)
  | some c => if csrAllowed c s.req.priv then k c else .next (raise s .priv s.req.imm)

/-- `csrrd` (48_csr.md R2100). -/
def execCsrrd (s : State) : Result :=
  needCsr s fun c => .next (respondScalar s (s.csrValue c))

/-- `csrwr` (48_csr.md R2101): `XR` is the old value. -/
def execCsrwr (s : State) : Result :=
  needCsr s fun c =>
    if csrValueLegal s.cfg c s.req.xa then .next (respondScalar (s.setCsr c s.req.xa) (s.csrValue c))
    else .next (raise s .range s.req.xa)

end Sys2Proof.Machine
end

