-- ==== Sys2Proof/Machine/Operands.lean ====
section
/-! DEFINITION. How a command reads its operands from the request (10_state.md R52, R53, R58): the scalar
floating-point operands, the lanes of a vector and their integer readings (00_scope.md R14 to R16), and the 5-bit
immediate (43_simd_minmax.md R1501). -/

namespace Sys2Proof.Machine

/-- A floating-point operand of a port: bits `[31:0]` for S, zero-extended, and the whole port for D
(10_state.md R52). A result of format S is held in the same way, so it is returned on `XR` as it stands. -/
def fpOperand (F : Fmt) (x : Word) : Word :=
  match F with
  | .S => (x.setWidth 32).setWidth 64
  | .D => x

/-- The low `iw` bits of a port as a signed integer, `sint(XA[iw-1:0])` (41_fp_compare_convert.md R1205). -/
def intOperand (iw : Nat) (x : Word) : Int := (x.setWidth iw).toInt

/-- `lanes(W)` (00_scope.md R16, 10_state.md R53). -/
def State.lanes (s : State) (W : Nat) : Nat := s.cfg.vlen / W

/-- Lane `i` of width `W`: bits `[(i+1)*W-1 : i*W]` (00_scope.md R16). -/
def lane (W : Nat) (V : Vec) (i : Nat) : BitVec W := V.extractLsb' (i * W) W

/-- The vector whose lanes `0` to `n - 1` of width `W` are `f 0` to `f (n - 1)`, and whose other bits are zero. -/
def packLanes (W : Nat) : Nat → (Nat → BitVec W) → Vec
  | 0, _ => 0
  | n + 1, f => packLanes W n f ||| ((f n).setWidth 256 <<< (n * W))

/-- `ext(S, x) = sint(x)` and `ext(U, x) = uint(x)` (00_scope.md R15). -/
def ext (σ : Sign) {W : Nat} (x : BitVec W) : Int :=
  match σ with
  | .S => x.toInt
  | .U => (x.toNat : Int)

/-- `sat_s_W(n) = min(max(n, -2^(W-1)), 2^(W-1)-1)` as a W-bit pattern (00_scope.md R15). -/
def satS (W : Nat) (n : Int) : BitVec W := bits W (min (max n (-2 ^ (W - 1))) (2 ^ (W - 1) - 1))

/-- `sat_u_W(n) = min(max(n, 0), 2^W-1)` as a W-bit pattern (00_scope.md R15). -/
def satU (W : Nat) (n : Int) : BitVec W := bits W (min (max n 0) (2 ^ W - 1))

/-- `sat_s_W` or `sat_u_W` by the sign of the operation. -/
def sat (σ : Sign) (W : Nat) (n : Int) : BitVec W :=
  match σ with
  | .S => satS W n
  | .U => satU W n

/-- The immediate is in its 5-bit range: -16 to 15 signed, 0 to 31 unsigned (43_simd_minmax.md R1501). -/
def immInRange (σ : Sign) (imm : Word) : Bool :=
  match σ with
  | .S => -16 ≤ imm.toInt && imm.toInt ≤ 15
  | .U => 0 ≤ imm.toInt && imm.toInt ≤ 31

end Sys2Proof.Machine
end

