-- ==== Sys2Proof/Machine/FloatFormat.lean ====
section
/-! DEFINITION. The two floating-point formats, the value of a bit pattern and the NaN kinds (40_fp_arith.md R1000 to
R1003, R1008, R1009). A pattern of format S is held in the low 32 bits of a word. Exact reals are integer fractions
(log 16): every real the rules form is one. -/

namespace Sys2Proof

/-- Width `k` (R1000). -/
def Fmt.width : Fmt → Nat
  | .S => 32
  | .D => 64

/-- Bits of the fraction field `T` (R1000). -/
def Fmt.fracBits : Fmt → Nat
  | .S => 23
  | .D => 52

/-- `Emax`, the all-ones exponent field (R1000). -/
def Fmt.expMax : Fmt → Nat
  | .S => 255
  | .D => 2047

/-- `bias` (R1000). -/
def Fmt.bias : Fmt → Nat
  | .S => 127
  | .D => 1023

/-- `p`, the precision (R1000). -/
def Fmt.prec : Fmt → Nat
  | .S => 24
  | .D => 53

/-- `emin = 1 - bias` (R1000). -/
def Fmt.emin (F : Fmt) : Int := 1 - (F.bias : Int)

/-- `emax = bias` (R1000). -/
def Fmt.emax (F : Fmt) : Int := (F.bias : Int)

end Sys2Proof

namespace Sys2Proof.Machine

/-- The sign bit `s`; also of a NaN (R1001, R1002). -/
def fpSign (F : Fmt) (a : Word) : Bool := a.getLsbD (F.width - 1)

/-- The exponent field `E` (R1000). -/
def fpExp (F : Fmt) (a : Word) : Nat := a.toNat / 2 ^ F.fracBits % (F.expMax + 1)

/-- The fraction field `T` (R1000). -/
def fpFrac (F : Fmt) (a : Word) : Nat := a.toNat % 2 ^ F.fracBits

/-- The pattern `{s, E, T}` (R1000). -/
def fpPack (F : Fmt) (s : Bool) (E T : Nat) : Word :=
  BitVec.ofNat 64 ((if s then 2 ^ (F.width - 1) else 0) + E * 2 ^ F.fracBits + T)

/-- A zero of either sign (R1001). -/
def isZero (F : Fmt) (a : Word) : Bool := fpExp F a == 0 && fpFrac F a == 0

/-- A subnormal (R1001). -/
def isSub (F : Fmt) (a : Word) : Bool := fpExp F a == 0 && fpFrac F a != 0

/-- An infinity (R1001). -/
def isInf (F : Fmt) (a : Word) : Bool := fpExp F a == F.expMax && fpFrac F a == 0

/-- A NaN (R1001). -/
def isNaN (F : Fmt) (a : Word) : Bool := fpExp F a == F.expMax && fpFrac F a != 0

/-- The most significant fraction bit (R1002). -/
def quietBit (F : Fmt) (a : Word) : Bool := a.getLsbD (F.fracBits - 1)

/-- A quiet NaN (R1002). -/
def isQNaN (F : Fmt) (a : Word) : Bool := isNaN F a && quietBit F a

/-- A signalling NaN (R1002). -/
def isSNaN (F : Fmt) (a : Word) : Bool := isNaN F a && !quietBit F a

/-- `neg(a)`: the sign bit inverted (R1003). -/
def fpNeg (F : Fmt) (a : Word) : Word := a ^^^ ((1 : Word) <<< (F.width - 1))

/-- `zero_F(s)` (R1003). -/
def fpZero (F : Fmt) (s : Bool) : Word := fpPack F s 0 0

/-- `inf_F(s)` (R1003). -/
def fpInf (F : Fmt) (s : Bool) : Word := fpPack F s F.expMax 0

/-- `maxfin_F(s)`: `E = Emax - 1`, `T` all ones (R1003). -/
def fpMaxFin (F : Fmt) (s : Bool) : Word := fpPack F s (F.expMax - 1) (2 ^ F.fracBits - 1)

/-- The default NaN (R1008). -/
def defaultNaN : Fmt → Word
  | .S => 0x7FC00000
  | .D => 0x7FF8000000000000

/-- `quiet_F(a)`: the quiet bit set, the rest kept (R1008). -/
def fpQuiet (F : Fmt) (a : Word) : Word := a ||| ((1 : Word) <<< (F.fracBits - 1))

/-- An exact real as a fraction `num / den`, with `den` positive (log 16). -/
structure Exact where
  num : Int
  den : Nat
  deriving DecidableEq, Repr

/-- The real an exact fraction stands for. -/
def Exact.real (x : Exact) : ℚ := (x.num : ℚ) / (x.den : ℚ)

/-- `n * 2^e`. -/
def Exact.scaled (n : Int) (e : Int) : Exact :=
  if 0 ≤ e then ⟨n * 2 ^ e.toNat, 1⟩ else ⟨n, 2 ^ (-e).toNat⟩

/-- The integer `n`. -/
def Exact.ofInt (n : Int) : Exact := ⟨n, 1⟩

/-- The sum. -/
def Exact.add (x y : Exact) : Exact := ⟨x.num * y.den + y.num * x.den, x.den * y.den⟩

/-- The product. -/
def Exact.mul (x y : Exact) : Exact := ⟨x.num * y.num, x.den * y.den⟩

/-- The quotient by a nonzero `y`. -/
def Exact.div (x y : Exact) : Exact :=
  ⟨if y.num < 0 then -(x.num * y.den) else x.num * y.den, x.den * y.num.natAbs⟩

/-- The magnitude. -/
def Exact.abs (x : Exact) : Exact := ⟨x.num.natAbs, x.den⟩

/-- `x < y`. -/
def Exact.lt (x y : Exact) : Bool := x.num * y.den < y.num * x.den

/-- `x = y`. -/
def Exact.eq (x y : Exact) : Bool := x.num * y.den == y.num * x.den

/-- The significand of a finite pattern as an integer: `T` for a zero or a subnormal, `2^(p-1) + T` for a normal
(R1001). -/
def fpSignificand (F : Fmt) (a : Word) : Nat :=
  if fpExp F a = 0 then fpFrac F a else 2 ^ (F.prec - 1) + fpFrac F a

/-- The exponent of the last place of a finite pattern: `emin - p + 1` for a zero or a subnormal, `E - bias - p + 1` for a
normal (R1001). -/
def fpScale (F : Fmt) (a : Word) : Int :=
  if fpExp F a = 0 then F.emin - F.prec + 1 else (fpExp F a : Int) - F.bias - F.prec + 1

/-- `val(a)` of a finite pattern (R1001). -/
def fpVal (F : Fmt) (a : Word) : Exact :=
  Exact.scaled (if fpSign F a then -(fpSignificand F a : Int) else (fpSignificand F a : Int)) (fpScale F a)

/-- The extended reals of the comparisons (R1003). -/
inductive XReal where
  | negInf
  | fin (x : Exact)
  | posInf
  deriving DecidableEq, Repr

/-- `xval(a)` of a pattern that is no NaN (R1003). -/
def fpXVal (F : Fmt) (a : Word) : XReal :=
  if isInf F a then (if fpSign F a then .negInf else .posInf) else .fin (fpVal F a)

/-- `|a|`, the magnitude of `xval(a)` (R1003). -/
def fpXMag (F : Fmt) (a : Word) : XReal :=
  if isInf F a then .posInf else .fin (fpVal F a).abs

/-- `<` of the extended reals. -/
def XReal.lt (x y : XReal) : Bool :=
  match x, y with
  | .negInf, .negInf => false
  | .negInf, _ => true
  | .fin _, .negInf => false
  | .fin p, .fin q => p.lt q
  | .fin _, .posInf => true
  | .posInf, _ => false

/-- `=` of the extended reals. -/
def XReal.eq (x y : XReal) : Bool :=
  match x, y with
  | .negInf, .negInf => true
  | .fin p, .fin q => p.eq q
  | .posInf, .posInf => true
  | _, _ => false

/-- `propagate_F(o1, o2, ...)` (R1009): the first signalling NaN, else the first quiet NaN, quieted; V when some operand
is a signalling NaN. It is called with at least one NaN among the operands. -/
def propagate (F : Fmt) (os : List Word) : Word × ExcSet :=
  match os.find? (isSNaN F) with
  | some n => (fpQuiet F n, excV)
  | none => (fpQuiet F ((os.find? (isQNaN F)).getD (defaultNaN F)), excNone)

end Sys2Proof.Machine
end

