-- ==== Sys2Proof/Machine/FloatRound.lean ====
section
/-! DEFINITION. The rounding function (40_fp_arith.md R1005 to R1007). A positive real is a pair of naturals `n`, `d`
with value `n / d`. -/

namespace Sys2Proof.Machine

/-- `rint(n / d, rm, s)`: the nonnegative real `n / d` to an integer, `s` the sign of the value being rounded
(R1005). -/
def rint (rm : RMode) (s : Bool) (n d : Nat) : Nat :=
  if n % d = 0 then n / d
  else match rm with
    | .RNE =>
      if d < 2 * (n % d) then n / d + 1
      else if 2 * (n % d) < d then n / d
      else if n / d % 2 = 0 then n / d else n / d + 1
    | .RZ => n / d
    | .RP => if s then n / d else n / d + 1
    | .RM => if s then n / d + 1 else n / d

/-- `2^k <= n / d`. -/
def pow2Le (k : Int) (n d : Nat) : Bool :=
  if 0 ≤ k then d * 2 ^ k.toNat ≤ n else d ≤ n * 2 ^ (-k).toNat

/-- `floor(log2(n / d))` of a positive real (R1005): the difference of the two logarithms, or one less. -/
def floorLog2 (n d : Nat) : Int :=
  let k : Int := (Nat.log2 n : Int) - (Nat.log2 d : Int)
  if pow2Le k n d then k else k - 1

/-- The fraction `(n / d) / 2^g`. -/
def divPow2 (n d : Nat) (g : Int) : Nat × Nat :=
  if 0 ≤ g then (n, d * 2 ^ g.toNat) else (n * 2 ^ (-g).toNat, d)

/-- The integer `N = rint((n / d) / 2^g)` (R1005). -/
def rintAt (rm : RMode) (s : Bool) (n d : Nat) (g : Int) : Nat :=
  rint rm s (divPow2 n d g).1 (divPow2 n d g).2

/-- `(n / d) / 2^g` is no integer, so rounding at the quantum `2^g` is inexact (R1005). -/
def inexactAt (n d : Nat) (g : Int) : Bool := (divPow2 n d g).1 % (divPow2 n d g).2 != 0

/-- `ovf(F, rm, s)` (R1006). -/
def ovf (F : Fmt) (rm : RMode) (s : Bool) : Word :=
  match rm with
  | .RNE => fpInf F s
  | .RZ => fpMaxFin F s
  | .RP => if s then fpMaxFin F true else fpInf F false
  | .RM => if s then fpInf F true else fpMaxFin F false

/-- The result is tiny (R1005, R1007): with AFTER, rounded as with an unbounded exponent range it is below `2^emin`;
with BEFORE the exact magnitude is. `e` is `floor(log2(n / d))`. -/
def tiny (F : Fmt) (t : Tininess) (rm : RMode) (s : Bool) (n d : Nat) (e : Int) : Bool :=
  match t with
  | .after =>
    let g := e - F.prec + 1
    let k := rintAt rm s n d g
    !(pow2Le (F.emin - g) k 1)
  | .before => !(pow2Le (F.emin) n d)

/-- The pattern of the rounded magnitude `N * 2^(eb - p + 1)`, and the exception set gathered so far (R1005). -/
def roundedResult (F : Fmt) (rm : RMode) (s : Bool) (N : Nat) (eb : Int) (isTiny inexact : Bool) : Word × ExcSet :=
  if F.emax < eb then (ovf F rm s, excO ||| excI)
  else
    let exc := excIf inexact excI ||| excIf (isTiny && inexact) excU
    if N = 0 then (fpZero F s, exc)
    else if N < 2 ^ (F.prec - 1) then (fpPack F s 0 N, exc)
    else (fpPack F s (eb + F.bias).toNat (N - 2 ^ (F.prec - 1)), exc)

/-- `RoundF` of a nonzero real of sign `s` and magnitude `n / d` (R1005). -/
def roundMag (F : Fmt) (t : Tininess) (rm : RMode) (s : Bool) (n d : Nat) : Word × ExcSet :=
  let e := floorLog2 n d
  let eb := max e (F.emin)
  let g := eb - F.prec + 1
  let N := rintAt rm s n d g
  let inexact := inexactAt n d g
  let isTiny := tiny F t rm s n d e
  if N = 2 ^ F.prec then roundedResult F rm s (2 ^ (F.prec - 1)) (eb + 1) isTiny inexact
  else roundedResult F rm s N eb isTiny inexact

/-- `RoundF(F, rm, x)` of a nonzero real `x` (R1005). -/
def roundF (F : Fmt) (t : Tininess) (rm : RMode) (x : Exact) : Word × ExcSet :=
  roundMag F t rm (x.num < 0) x.num.natAbs x.den

end Sys2Proof.Machine
end

