-- ==== Sys2Proof/Machine/FloatCore.lean ====
section
/-! DEFINITION. The cores of the floating-point commands (40_fp_arith.md R1013 to R1019, 41_fp_compare_convert.md R1200
to R1205), and the shapes of the commands over them. The operands `a`, `b`, `c` are patterns of format `F`. -/

namespace Sys2Proof.Machine

/-- `add_core` (40_fp_arith.md R1013, R1011). -/
def addCore (F : Fmt) (t : Tininess) (rm : RMode) (a b : Word) : Word × ExcSet :=
  if isNaN F a || isNaN F b then propagate F [a, b]
  else if isInf F a && isInf F b && fpSign F a != fpSign F b then (defaultNaN F, excV)
  else if isInf F a then (a, excNone)
  else if isInf F b then (b, excNone)
  else
    let x := (fpVal F a).add (fpVal F b)
    if x.num = 0 then
      if isZero F a && isZero F b && fpSign F a == fpSign F b then (a, excNone)
      else (fpZero F (rm == .RM), excNone)
    else roundF F t rm x

/-- `sub_core` (R1014): a NaN operand is not negated. -/
def subCore (F : Fmt) (t : Tininess) (rm : RMode) (a b : Word) : Word × ExcSet :=
  if isNaN F a || isNaN F b then propagate F [a, b] else addCore F t rm a (fpNeg F b)

/-- `mul_core` (R1015). -/
def mulCore (F : Fmt) (t : Tininess) (rm : RMode) (a b : Word) : Word × ExcSet :=
  let s := fpSign F a != fpSign F b
  if isNaN F a || isNaN F b then propagate F [a, b]
  else if isInf F a && isZero F b || isZero F a && isInf F b then (defaultNaN F, excV)
  else if isInf F a || isInf F b then (fpInf F s, excNone)
  else
    let x := (fpVal F a).mul (fpVal F b)
    if x.num = 0 then (fpZero F s, excNone) else roundF F t rm x

/-- `div_core` (R1016). -/
def divCore (F : Fmt) (t : Tininess) (rm : RMode) (a b : Word) : Word × ExcSet :=
  let s := fpSign F a != fpSign F b
  if isNaN F a || isNaN F b then propagate F [a, b]
  else if isInf F a && isInf F b || isZero F a && isZero F b then (defaultNaN F, excV)
  else if isInf F a then (fpInf F s, excNone)
  else if isInf F b then (fpZero F s, excNone)
  else if isZero F b then (fpInf F s, excZ)
  else if isZero F a then (fpZero F s, excNone)
  else roundF F t rm ((fpVal F a).div (fpVal F b))

/-- `fma_core` (R1017): one rounding of the exact `a * b + c`. -/
def fmaCore (F : Fmt) (t : Tininess) (rm : RMode) (a b c : Word) : Word × ExcSet :=
  let inv0 := isInf F a && isZero F b || isZero F a && isInf F b
  let sp := fpSign F a != fpSign F b
  if isNaN F a || isNaN F b || isNaN F c then
    let r := propagate F [a, b, c]
    (r.1, r.2 ||| excIf inv0 excV)
  else if inv0 then (defaultNaN F, excV)
  else if isInf F a || isInf F b then
    if isInf F c && fpSign F c != sp then (defaultNaN F, excV) else (fpInf F sp, excNone)
  else if isInf F c then (c, excNone)
  else
    let x := ((fpVal F a).mul (fpVal F b)).add (fpVal F c)
    if x.num = 0 then
      if (isZero F a || isZero F b) && isZero F c && sp == fpSign F c then (fpZero F sp, excNone)
      else (fpZero F (rm == .RM), excNone)
    else roundF F t rm x

/-- The part of R1018 the four cores share: the NaN operands, then `pick` of the patterns for two numbers. -/
def numCore (F : Fmt) (pick : Word → Word → Word) (a b : Word) : Word × ExcSet :=
  if isNaN F a && isNaN F b then propagate F [a, b]
  else
    let exc := excIf (isSNaN F a || isSNaN F b) excV
    if isNaN F a then (b, exc)
    else if isNaN F b then (a, exc)
    else (pick a b, excNone)

/-- The lesser of two numbers, `-0` below `+0` (R1018). -/
def pickMin (F : Fmt) (a b : Word) : Word :=
  if !(fpXVal F a).eq (fpXVal F b) then (if (fpXVal F a).lt (fpXVal F b) then a else b)
  else if isZero F a && fpSign F a != fpSign F b then fpZero F true
  else a

/-- The greater of two numbers, `-0` below `+0` (R1018). -/
def pickMax (F : Fmt) (a b : Word) : Word :=
  if !(fpXVal F a).eq (fpXVal F b) then (if (fpXVal F b).lt (fpXVal F a) then a else b)
  else if isZero F a && fpSign F a != fpSign F b then fpZero F false
  else a

/-- The number of lesser magnitude; of two of the same magnitude, the lesser (R1018). -/
def pickMinMag (F : Fmt) (a b : Word) : Word :=
  if !(fpXMag F a).eq (fpXMag F b) then (if (fpXMag F a).lt (fpXMag F b) then a else b) else pickMin F a b

/-- The number of greater magnitude; of two of the same magnitude, the greater (R1018). -/
def pickMaxMag (F : Fmt) (a b : Word) : Word :=
  if !(fpXMag F a).eq (fpXMag F b) then (if (fpXMag F b).lt (fpXMag F a) then a else b) else pickMax F a b

/-- The class of a pattern: its bit number in the table of R1019. -/
def fclassIndex (F : Fmt) (a : Word) : Nat :=
  if isSNaN F a then 9
  else if isQNaN F a then 8
  else if isInf F a then (if fpSign F a then 0 else 7)
  else if isZero F a then (if fpSign F a then 3 else 4)
  else if isSub F a then (if fpSign F a then 2 else 5)
  else if fpSign F a then 1 else 6

/-- `fclass_core` (R1019): one bit of ten; the exception set is empty. -/
def fclassCore (F : Fmt) (a : Word) : Word × ExcSet := ((1 : Word) <<< fclassIndex F a, excNone)

/-- `rel(xval(a), xval(b))` of two numbers (41_fp_compare_convert.md R1201). -/
def relHolds (rel : Rel) (x y : XReal) : Bool :=
  match rel with
  | .EQ => x.eq y
  | .NE => !x.eq y
  | .LT => x.lt y
  | .LE => x.lt y || x.eq y
  | .GT => y.lt x
  | .GE => y.lt x || x.eq y

/-- `fcmp_core` (R1200). -/
def fcmpCore (F : Fmt) (rel : Rel) (signalling : Bool) (a b : Word) : Word × ExcSet :=
  let unordered := isNaN F a || isNaN F b
  let exc := excIf (if signalling then unordered else isSNaN F a || isSNaN F b) excV
  let t := if unordered then rel == .NE else relHolds rel (fpXVal F a) (fpXVal F b)
  (if t then 1 else 0, exc)

/-- The fraction field of a NaN in the format `Fd`, its top bits kept (R1202). -/
def nanFraction (Fs Fd : Fmt) (T : Nat) : Nat :=
  if Fs.fracBits ≤ Fd.fracBits then T * 2 ^ (Fd.fracBits - Fs.fracBits)
  else T / 2 ^ (Fs.fracBits - Fd.fracBits)

/-- `fcvt_core` (R1202). -/
def fcvtCore (Fd Fs : Fmt) (t : Tininess) (rm : RMode) (a : Word) : Word × ExcSet :=
  if isNaN Fs a then
    (fpQuiet Fd (fpPack Fd (fpSign Fs a) Fd.expMax (nanFraction Fs Fd (fpFrac Fs a))),
      excIf (isSNaN Fs a) excV)
  else if isInf Fs a then (fpInf Fd (fpSign Fs a), excNone)
  else if isZero Fs a then (fpZero Fd (fpSign Fs a), excNone)
  else roundF Fd t rm (fpVal Fs a)

/-- The greatest signed integer of `iw` bits (R1204). -/
def intMax (iw : Nat) : Int := 2 ^ (iw - 1) - 1

/-- The least signed integer of `iw` bits (R1204). -/
def intMin (iw : Nat) : Int := -2 ^ (iw - 1)

/-- `ftint_core` (R1204): the integer and the exception set. -/
def ftintCore (F : Fmt) (iw : Nat) (rm : RMode) (a : Word) : Int × ExcSet :=
  if isNaN F a then (0, excV)
  else if isInf F a then (if fpSign F a then intMin iw else intMax iw, excV)
  else if isZero F a then (0, excNone)
  else
    let x := fpVal F a
    let m := rint rm (fpSign F a) x.num.natAbs x.den
    let n : Int := if fpSign F a then -(m : Int) else (m : Int)
    if intMax iw < n then (intMax iw, excV)
    else if n < intMin iw then (intMin iw, excV)
    else (n, excIf (!(Exact.ofInt n).eq x) excI)

/-- `ffint_core` (R1205). -/
def ffintCore (F : Fmt) (t : Tininess) (rm : RMode) (n : Int) : Word × ExcSet :=
  if n = 0 then (fpZero F false, excNone) else roundF F t rm (Exact.ofInt n)

/-- A rounding command of two operands: `a`, `b` from `XA`, `XB`, the current rounding mode (R1012), FPCOMMIT. -/
def fpRound2 (F : Fmt) (core : Fmt → Tininess → RMode → Word → Word → Word × ExcSet) (s : State) : Result :=
  fpCommit s (core F s.cfg.tininess (rmOf s.fcsr) (fpOperand F s.req.xa) (fpOperand F s.req.xb))

/-- The rounding command of three operands, `c` from `XC`. -/
def fpRound3 (F : Fmt) (core : Fmt → Tininess → RMode → Word → Word → Word → Word × ExcSet) (s : State) : Result :=
  fpCommit s
    (core F s.cfg.tininess (rmOf s.fcsr) (fpOperand F s.req.xa) (fpOperand F s.req.xb) (fpOperand F s.req.xc))

/-- A minimum or maximum command (R1018): no rounding mode is read. -/
def fpMinMax (F : Fmt) (pick : Fmt → Word → Word → Word) (s : State) : Result :=
  fpCommit s (numCore F (pick F) (fpOperand F s.req.xa) (fpOperand F s.req.xb))

/-- A classification command (R1048, R1049). -/
def fpClassify (F : Fmt) (s : State) : Result := fpCommit s (fclassCore F (fpOperand F s.req.xa))

/-- A comparison command (41_fp_compare_convert.md R1200): `XR = zext_64(t)`. -/
def fpCompare (F : Fmt) (rel : Rel) (signalling : Bool) (s : State) : Result :=
  fpCommit s (fcmpCore F rel signalling (fpOperand F s.req.xa) (fpOperand F s.req.xb))

/-- A float-to-float conversion command (R1202). -/
def fpConvert (Fd Fs : Fmt) (s : State) : Result :=
  fpCommit s (fcvtCore Fd Fs s.cfg.tininess (rmOf s.fcsr) (fpOperand Fs s.req.xa))

/-- A float-to-integer command with the rounding mode `rm` (R1203, R1204): `XR = sext_64(bits_iw(n))`. -/
def fpToInt (F : Fmt) (iw : Nat) (rm : RMode) (s : State) : Result :=
  let r := ftintCore F iw rm (fpOperand F s.req.xa)
  fpCommit s ((bits iw r.1).signExtend 64, r.2)

/-- An integer-to-float command (R1205). -/
def fpFromInt (F : Fmt) (iw : Nat) (s : State) : Result :=
  fpCommit s (ffintCore F s.cfg.tininess (rmOf s.fcsr) (intOperand iw s.req.xa))

end Sys2Proof.Machine
end

