-- ==== Sys2Proof/Machine/FpArith.lean ====
section
/-! DEFINITION. The floating-point arithmetic commands (40_fp_arith.md R1030 to R1049), each over its core and FPCOMMIT. -/

namespace Sys2Proof.Machine

/-- `fadd.s` (40_fp_arith.md R1030). -/
def execFaddS (s : State) : Result := fpRound2 .S addCore s

/-- `fadd.d` (40_fp_arith.md R1031). -/
def execFaddD (s : State) : Result := fpRound2 .D addCore s

/-- `fsub.s` (40_fp_arith.md R1032). -/
def execFsubS (s : State) : Result := fpRound2 .S subCore s

/-- `fsub.d` (40_fp_arith.md R1033). -/
def execFsubD (s : State) : Result := fpRound2 .D subCore s

/-- `fmul.s` (40_fp_arith.md R1034). -/
def execFmulS (s : State) : Result := fpRound2 .S mulCore s

/-- `fmul.d` (40_fp_arith.md R1035). -/
def execFmulD (s : State) : Result := fpRound2 .D mulCore s

/-- `fdiv.s` (40_fp_arith.md R1036). -/
def execFdivS (s : State) : Result := fpRound2 .S divCore s

/-- `fdiv.d` (40_fp_arith.md R1037). -/
def execFdivD (s : State) : Result := fpRound2 .D divCore s

/-- `fmadd.s` (40_fp_arith.md R1038). -/
def execFmaddS (s : State) : Result := fpRound3 .S fmaCore s

/-- `fmadd.d` (40_fp_arith.md R1039). -/
def execFmaddD (s : State) : Result := fpRound3 .D fmaCore s

/-- `fmin.s` (40_fp_arith.md R1040). -/
def execFminS (s : State) : Result := fpMinMax .S pickMin s

/-- `fmin.d` (40_fp_arith.md R1041). -/
def execFminD (s : State) : Result := fpMinMax .D pickMin s

/-- `fmax.s` (40_fp_arith.md R1042). -/
def execFmaxS (s : State) : Result := fpMinMax .S pickMax s

/-- `fmax.d` (40_fp_arith.md R1043). -/
def execFmaxD (s : State) : Result := fpMinMax .D pickMax s

/-- `fmina.s` (40_fp_arith.md R1044). -/
def execFminaS (s : State) : Result := fpMinMax .S pickMinMag s

/-- `fmina.d` (40_fp_arith.md R1045). -/
def execFminaD (s : State) : Result := fpMinMax .D pickMinMag s

/-- `fmaxa.s` (40_fp_arith.md R1046). -/
def execFmaxaS (s : State) : Result := fpMinMax .S pickMaxMag s

/-- `fmaxa.d` (40_fp_arith.md R1047). -/
def execFmaxaD (s : State) : Result := fpMinMax .D pickMaxMag s

/-- `fclass.s` (40_fp_arith.md R1048). -/
def execFclassS (s : State) : Result := fpClassify .S s

/-- `fclass.d` (40_fp_arith.md R1049). -/
def execFclassD (s : State) : Result := fpClassify .D s

end Sys2Proof.Machine
end

