-- ==== Sys2Proof/Machine/FpCompare.lean ====
section
/-! DEFINITION. The floating-point comparisons (41_fp_compare_convert.md section 3), `fcmp_core` and FPCOMMIT. -/

namespace Sys2Proof.Machine

/-- `fcmp.qeq.s` (41_fp_compare_convert.md R1210). -/
def execFcmpQeqS (s : State) : Result := fpCompare .S .EQ false s

/-- `fcmp.qeq.d` (41_fp_compare_convert.md R1211). -/
def execFcmpQeqD (s : State) : Result := fpCompare .D .EQ false s

/-- `fcmp.qne.s` (41_fp_compare_convert.md R1212). -/
def execFcmpQneS (s : State) : Result := fpCompare .S .NE false s

/-- `fcmp.qne.d` (41_fp_compare_convert.md R1213). -/
def execFcmpQneD (s : State) : Result := fpCompare .D .NE false s

/-- `fcmp.qlt.s` (41_fp_compare_convert.md R1214). -/
def execFcmpQltS (s : State) : Result := fpCompare .S .LT false s

/-- `fcmp.qlt.d` (41_fp_compare_convert.md R1215). -/
def execFcmpQltD (s : State) : Result := fpCompare .D .LT false s

/-- `fcmp.qle.s` (41_fp_compare_convert.md R1216). -/
def execFcmpQleS (s : State) : Result := fpCompare .S .LE false s

/-- `fcmp.qle.d` (41_fp_compare_convert.md R1217). -/
def execFcmpQleD (s : State) : Result := fpCompare .D .LE false s

/-- `fcmp.qgt.s` (41_fp_compare_convert.md R1218). -/
def execFcmpQgtS (s : State) : Result := fpCompare .S .GT false s

/-- `fcmp.qgt.d` (41_fp_compare_convert.md R1219). -/
def execFcmpQgtD (s : State) : Result := fpCompare .D .GT false s

/-- `fcmp.qge.s` (41_fp_compare_convert.md R1220). -/
def execFcmpQgeS (s : State) : Result := fpCompare .S .GE false s

/-- `fcmp.qge.d` (41_fp_compare_convert.md R1221). -/
def execFcmpQgeD (s : State) : Result := fpCompare .D .GE false s

/-- `fcmp.seq.s` (41_fp_compare_convert.md R1222). -/
def execFcmpSeqS (s : State) : Result := fpCompare .S .EQ true s

/-- `fcmp.seq.d` (41_fp_compare_convert.md R1223). -/
def execFcmpSeqD (s : State) : Result := fpCompare .D .EQ true s

/-- `fcmp.sne.s` (41_fp_compare_convert.md R1224). -/
def execFcmpSneS (s : State) : Result := fpCompare .S .NE true s

/-- `fcmp.sne.d` (41_fp_compare_convert.md R1225). -/
def execFcmpSneD (s : State) : Result := fpCompare .D .NE true s

/-- `fcmp.slt.s` (41_fp_compare_convert.md R1226). -/
def execFcmpSltS (s : State) : Result := fpCompare .S .LT true s

/-- `fcmp.slt.d` (41_fp_compare_convert.md R1227). -/
def execFcmpSltD (s : State) : Result := fpCompare .D .LT true s

/-- `fcmp.sle.s` (41_fp_compare_convert.md R1228). -/
def execFcmpSleS (s : State) : Result := fpCompare .S .LE true s

/-- `fcmp.sle.d` (41_fp_compare_convert.md R1229). -/
def execFcmpSleD (s : State) : Result := fpCompare .D .LE true s

/-- `fcmp.sgt.s` (41_fp_compare_convert.md R1230). -/
def execFcmpSgtS (s : State) : Result := fpCompare .S .GT true s

/-- `fcmp.sgt.d` (41_fp_compare_convert.md R1231). -/
def execFcmpSgtD (s : State) : Result := fpCompare .D .GT true s

/-- `fcmp.sge.s` (41_fp_compare_convert.md R1232). -/
def execFcmpSgeS (s : State) : Result := fpCompare .S .GE true s

/-- `fcmp.sge.d` (41_fp_compare_convert.md R1233). -/
def execFcmpSgeD (s : State) : Result := fpCompare .D .GE true s

end Sys2Proof.Machine
end

