-- ==== Sys2Proof/Machine/FpConvert.lean ====
section
/-! DEFINITION. The floating-point conversions (41_fp_compare_convert.md section 4), each over its core and FPCOMMIT. -/

namespace Sys2Proof.Machine

/-- `fcvt.s.d` (41_fp_compare_convert.md R1240). -/
def execFcvtSD (s : State) : Result := fpConvert .S .D s

/-- `fcvt.d.s` (41_fp_compare_convert.md R1241). -/
def execFcvtDS (s : State) : Result := fpConvert .D .S s

/-- `ftint.w.s` (41_fp_compare_convert.md R1242). -/
def execFtintWS (s : State) : Result := fpToInt .S 32 (rmOf s.fcsr) s

/-- `ftintrne.w.s` (41_fp_compare_convert.md R1243). -/
def execFtintrneWS (s : State) : Result := fpToInt .S 32 .RNE s

/-- `ftintrz.w.s` (41_fp_compare_convert.md R1244). -/
def execFtintrzWS (s : State) : Result := fpToInt .S 32 .RZ s

/-- `ftintrp.w.s` (41_fp_compare_convert.md R1245). -/
def execFtintrpWS (s : State) : Result := fpToInt .S 32 .RP s

/-- `ftintrm.w.s` (41_fp_compare_convert.md R1246). -/
def execFtintrmWS (s : State) : Result := fpToInt .S 32 .RM s

/-- `ftint.l.s` (41_fp_compare_convert.md R1247). -/
def execFtintLS (s : State) : Result := fpToInt .S 64 (rmOf s.fcsr) s

/-- `ftintrne.l.s` (41_fp_compare_convert.md R1248). -/
def execFtintrneLS (s : State) : Result := fpToInt .S 64 .RNE s

/-- `ftintrz.l.s` (41_fp_compare_convert.md R1249). -/
def execFtintrzLS (s : State) : Result := fpToInt .S 64 .RZ s

/-- `ftintrp.l.s` (41_fp_compare_convert.md R1250). -/
def execFtintrpLS (s : State) : Result := fpToInt .S 64 .RP s

/-- `ftintrm.l.s` (41_fp_compare_convert.md R1251). -/
def execFtintrmLS (s : State) : Result := fpToInt .S 64 .RM s

/-- `ftint.w.d` (41_fp_compare_convert.md R1252). -/
def execFtintWD (s : State) : Result := fpToInt .D 32 (rmOf s.fcsr) s

/-- `ftintrne.w.d` (41_fp_compare_convert.md R1253). -/
def execFtintrneWD (s : State) : Result := fpToInt .D 32 .RNE s

/-- `ftintrz.w.d` (41_fp_compare_convert.md R1254). -/
def execFtintrzWD (s : State) : Result := fpToInt .D 32 .RZ s

/-- `ftintrp.w.d` (41_fp_compare_convert.md R1255). -/
def execFtintrpWD (s : State) : Result := fpToInt .D 32 .RP s

/-- `ftintrm.w.d` (41_fp_compare_convert.md R1256). -/
def execFtintrmWD (s : State) : Result := fpToInt .D 32 .RM s

/-- `ftint.l.d` (41_fp_compare_convert.md R1257). -/
def execFtintLD (s : State) : Result := fpToInt .D 64 (rmOf s.fcsr) s

/-- `ftintrne.l.d` (41_fp_compare_convert.md R1258). -/
def execFtintrneLD (s : State) : Result := fpToInt .D 64 .RNE s

/-- `ftintrz.l.d` (41_fp_compare_convert.md R1259). -/
def execFtintrzLD (s : State) : Result := fpToInt .D 64 .RZ s

/-- `ftintrp.l.d` (41_fp_compare_convert.md R1260). -/
def execFtintrpLD (s : State) : Result := fpToInt .D 64 .RP s

/-- `ftintrm.l.d` (41_fp_compare_convert.md R1261). -/
def execFtintrmLD (s : State) : Result := fpToInt .D 64 .RM s

/-- `ffint.s.w` (41_fp_compare_convert.md R1262). -/
def execFfintSW (s : State) : Result := fpFromInt .S 32 s

/-- `ffint.s.l` (41_fp_compare_convert.md R1263). -/
def execFfintSL (s : State) : Result := fpFromInt .S 64 s

/-- `ffint.d.w` (41_fp_compare_convert.md R1264). -/
def execFfintDW (s : State) : Result := fpFromInt .D 32 s

/-- `ffint.d.l` (41_fp_compare_convert.md R1265). -/
def execFfintDL (s : State) : Result := fpFromInt .D 64 s

end Sys2Proof.Machine
end

