-- ==== Sys2Proof/Machine/Lanes.lean ====
section
/-! DEFINITION. The lane functions of the SIMD commands and the shapes of the commands (42_simd_lanewise.md R1400 to
R1405, 43_simd_minmax.md R1500, R1501, 44_simd_multiply.md R1600 to R1604, 46_simd_widen_narrow.md R1800 to R1804). A
SIMD command reads `VA`, `VB`, `VC` or `IMM` and writes the whole `VR`, nothing else (R1400). -/

namespace Sys2Proof.Machine

/-- A command that gives lane `i` of `VR` from lane `i` of `VA` and `VB` (R1401). -/
def lanewise2 (W : Nat) (f : BitVec W → BitVec W → BitVec W) (s : State) : Result :=
  .next (respondVec s (packLanes W (s.lanes W) fun i => f (lane W s.req.va i) (lane W s.req.vb i)))

/-- A command that gives lane `i` of `VR` from lane `i` of `VC`, `VA` and `VB`, in this order (R1401). -/
def lanewise3 (W : Nat) (f : BitVec W → BitVec W → BitVec W → BitVec W) (s : State) : Result :=
  .next (respondVec s
    (packLanes W (s.lanes W) fun i => f (lane W s.req.vc i) (lane W s.req.va i) (lane W s.req.vb i)))

/-- A command that gives lane `i` of `VR` from lane `i` of `VA` and the broadcast immediate, which must lie in its
5-bit range (43_simd_minmax.md R1501). -/
def lanewiseImm (σ : Sign) (W : Nat) (f : BitVec W → BitVec W → BitVec W) (s : State) : Result :=
  if immInRange σ s.req.imm then
    .next (respondVec s
      (packLanes W (s.lanes W) fun i => f (lane W s.req.va i) (bits W s.req.imm.toInt)))
  else .next (raise s .illegalImm s.req.imm)

/-- Which of the source lanes `2i` and `2i+1` a widening command reads for result lane `i`. -/
inductive Half where
  /-- lane `2i` -/
  | ev
  /-- lane `2i+1` -/
  | od
  deriving DecidableEq, Repr

/-- The source lane for result lane `i`. -/
def Half.index (h : Half) (i : Nat) : Nat :=
  match h with
  | .ev => 2 * i
  | .od => 2 * i + 1

/-- A widening command (44_simd_multiply.md R1603): source width `W`, result width `2W`; `ha`, `hb` say which lane of `VA` and
of `VB` result lane `i` reads, `sa`, `sb` how it is read. -/
def widen (W : Nat) (ha hb : Half) (sa sb : Sign) (f : Int → Int → Int) (s : State) : Result :=
  .next (respondVec s
    (packLanes (2 * W) (s.lanes (2 * W)) fun i =>
      bits (2 * W) (f (ext sa (lane W s.req.va (ha.index i))) (ext sb (lane W s.req.vb (hb.index i))))))

/-- A widening command that accumulates into lane `i` of `VC` (R1603, R1604): `f` of that lane and the product. -/
def widenAcc (W : Nat) (h : Half) (sa sb : Sign) (f : Int → Int → Int) (s : State) : Result :=
  .next (respondVec s
    (packLanes (2 * W) (s.lanes (2 * W)) fun i =>
      bits (2 * W) (f ((lane (2 * W) s.req.vc i).toNat : Int)
        (ext sa (lane W s.req.va (h.index i)) * ext sb (lane W s.req.vb (h.index i))))))

/-- A narrowing command (46_simd_widen_narrow.md R1803): source width `2W`, result width `W`; with `n = lanes(2W)`, result lanes 0 to
`n - 1` come from `VA` and `n` to `2n - 1` from `VB`. -/
def narrow (W : Nat) (f : BitVec (2 * W) → BitVec W) (s : State) : Result :=
  .next (respondVec s
    (packLanes W (2 * s.lanes (2 * W)) fun i =>
      if i < s.lanes (2 * W) then f (lane (2 * W) s.req.va i)
      else f (lane (2 * W) s.req.vb (i - s.lanes (2 * W)))))

/-- `vadd` (R1402). -/
def addLane (W : Nat) (a b : BitVec W) : BitVec W := bits W ((a.toNat : Int) + b.toNat)

/-- `vsub` (R1402). -/
def subLane (W : Nat) (a b : BitVec W) : BitVec W := bits W ((a.toNat : Int) - b.toNat)

/-- `vsadd` (R1403). -/
def saddLane (σ : Sign) (W : Nat) (a b : BitVec W) : BitVec W := sat σ W (ext σ a + ext σ b)

/-- `vssub` (R1403). -/
def ssubLane (σ : Sign) (W : Nat) (a b : BitVec W) : BitVec W := sat σ W (ext σ a - ext σ b)

/-- `vavg` (R1404): the sum halved toward minus infinity. -/
def avgLane (σ : Sign) (W : Nat) (a b : BitVec W) : BitVec W := bits W ((ext σ a + ext σ b) / 2)

/-- `vavgr` (R1404): the sum and one, halved toward minus infinity. -/
def avgrLane (σ : Sign) (W : Nat) (a b : BitVec W) : BitVec W := bits W ((ext σ a + ext σ b + 1) / 2)

/-- `vabsd` (R1405). -/
def absdLane (σ : Sign) (W : Nat) (a b : BitVec W) : BitVec W := bits W ((ext σ a - ext σ b).natAbs : Int)

/-- `vabsdacc` (R1405). -/
def absdaccLane (σ : Sign) (W : Nat) (c a b : BitVec W) : BitVec W :=
  bits W ((c.toNat : Int) + (ext σ a - ext σ b).natAbs)

/-- `vmin` (43_simd_minmax.md R1500). -/
def minLane (σ : Sign) (W : Nat) (a b : BitVec W) : BitVec W := if ext σ a ≤ ext σ b then a else b

/-- `vmax` (43_simd_minmax.md R1500). -/
def maxLane (σ : Sign) (W : Nat) (a b : BitVec W) : BitVec W := if ext σ b ≤ ext σ a then a else b

/-- `vmul` (44_simd_multiply.md R1600). -/
def mulLane (W : Nat) (a b : BitVec W) : BitVec W := bits W ((a.toNat : Int) * b.toNat)

/-- `vmuh` (R1601): the upper half of the product. -/
def muhLane (σ : Sign) (W : Nat) (a b : BitVec W) : BitVec W := bits W (ext σ a * ext σ b / 2 ^ W)

/-- `vmadd` (R1602). -/
def maddLane (W : Nat) (c a b : BitVec W) : BitVec W := bits W ((c.toNat : Int) + (a.toNat : Int) * b.toNat)

/-- `vmsub` (R1602). -/
def msubLane (W : Nat) (c a b : BitVec W) : BitVec W := bits W ((c.toNat : Int) - (a.toNat : Int) * b.toNat)

/-- The exact sum, of `vaddwev`, `vaddwod`, `vhaddw` and the accumulations. -/
def plusZ (x y : Int) : Int := x + y

/-- The exact difference. -/
def minusZ (x y : Int) : Int := x - y

/-- The exact product. -/
def timesZ (x y : Int) : Int := x * y

/-- `vnarrow` (46_simd_widen_narrow.md R1804): the low half. -/
def narrowWrap (W : Nat) (x : BitVec (2 * W)) : BitVec W := bits W (x.toNat : Int)

/-- `vnarrows` (R1804): saturated, signed to signed. -/
def narrowSigned (W : Nat) (x : BitVec (2 * W)) : BitVec W := satS W x.toInt

/-- `vnarrowu` (R1804): saturated, unsigned to unsigned. -/
def narrowUnsigned (W : Nat) (x : BitVec (2 * W)) : BitVec W := satU W (x.toNat : Int)

end Sys2Proof.Machine
end

