-- ==== Sys2Proof/Machine/SimdLanewise.lean ====
section
/-! DEFINITION. The lane-wise SIMD commands (42_simd_lanewise.md). -/

namespace Sys2Proof.Machine

/-- `vadd.b` (42_simd_lanewise.md R1420). -/
def execVaddB (s : State) : Result := lanewise2 8 (addLane 8) s

/-- `vadd.h` (42_simd_lanewise.md R1421). -/
def execVaddH (s : State) : Result := lanewise2 16 (addLane 16) s

/-- `vadd.w` (42_simd_lanewise.md R1422). -/
def execVaddW (s : State) : Result := lanewise2 32 (addLane 32) s

/-- `vadd.d` (42_simd_lanewise.md R1423). -/
def execVaddD (s : State) : Result := lanewise2 64 (addLane 64) s

/-- `vadd.q` (42_simd_lanewise.md R1424). -/
def execVaddQ (s : State) : Result := lanewise2 128 (addLane 128) s

/-- `vsub.b` (42_simd_lanewise.md R1425). -/
def execVsubB (s : State) : Result := lanewise2 8 (subLane 8) s

/-- `vsub.h` (42_simd_lanewise.md R1426). -/
def execVsubH (s : State) : Result := lanewise2 16 (subLane 16) s

/-- `vsub.w` (42_simd_lanewise.md R1427). -/
def execVsubW (s : State) : Result := lanewise2 32 (subLane 32) s

/-- `vsub.d` (42_simd_lanewise.md R1428). -/
def execVsubD (s : State) : Result := lanewise2 64 (subLane 64) s

/-- `vsub.q` (42_simd_lanewise.md R1429). -/
def execVsubQ (s : State) : Result := lanewise2 128 (subLane 128) s

/-- `vsadd.b` (42_simd_lanewise.md R1430). -/
def execVsaddB (s : State) : Result := lanewise2 8 (saddLane .S 8) s

/-- `vsadd.bu` (42_simd_lanewise.md R1431). -/
def execVsaddBu (s : State) : Result := lanewise2 8 (saddLane .U 8) s

/-- `vsadd.h` (42_simd_lanewise.md R1432). -/
def execVsaddH (s : State) : Result := lanewise2 16 (saddLane .S 16) s

/-- `vsadd.hu` (42_simd_lanewise.md R1433). -/
def execVsaddHu (s : State) : Result := lanewise2 16 (saddLane .U 16) s

/-- `vsadd.w` (42_simd_lanewise.md R1434). -/
def execVsaddW (s : State) : Result := lanewise2 32 (saddLane .S 32) s

/-- `vsadd.wu` (42_simd_lanewise.md R1435). -/
def execVsaddWu (s : State) : Result := lanewise2 32 (saddLane .U 32) s

/-- `vsadd.d` (42_simd_lanewise.md R1436). -/
def execVsaddD (s : State) : Result := lanewise2 64 (saddLane .S 64) s

/-- `vsadd.du` (42_simd_lanewise.md R1437). -/
def execVsaddDu (s : State) : Result := lanewise2 64 (saddLane .U 64) s

/-- `vssub.b` (42_simd_lanewise.md R1438). -/
def execVssubB (s : State) : Result := lanewise2 8 (ssubLane .S 8) s

/-- `vssub.bu` (42_simd_lanewise.md R1439). -/
def execVssubBu (s : State) : Result := lanewise2 8 (ssubLane .U 8) s

/-- `vssub.h` (42_simd_lanewise.md R1440). -/
def execVssubH (s : State) : Result := lanewise2 16 (ssubLane .S 16) s

/-- `vssub.hu` (42_simd_lanewise.md R1441). -/
def execVssubHu (s : State) : Result := lanewise2 16 (ssubLane .U 16) s

/-- `vssub.w` (42_simd_lanewise.md R1442). -/
def execVssubW (s : State) : Result := lanewise2 32 (ssubLane .S 32) s

/-- `vssub.wu` (42_simd_lanewise.md R1443). -/
def execVssubWu (s : State) : Result := lanewise2 32 (ssubLane .U 32) s

/-- `vssub.d` (42_simd_lanewise.md R1444). -/
def execVssubD (s : State) : Result := lanewise2 64 (ssubLane .S 64) s

/-- `vssub.du` (42_simd_lanewise.md R1445). -/
def execVssubDu (s : State) : Result := lanewise2 64 (ssubLane .U 64) s

/-- `vavg.b` (42_simd_lanewise.md R1446). -/
def execVavgB (s : State) : Result := lanewise2 8 (avgLane .S 8) s

/-- `vavg.bu` (42_simd_lanewise.md R1447). -/
def execVavgBu (s : State) : Result := lanewise2 8 (avgLane .U 8) s

/-- `vavg.h` (42_simd_lanewise.md R1448). -/
def execVavgH (s : State) : Result := lanewise2 16 (avgLane .S 16) s

/-- `vavg.hu` (42_simd_lanewise.md R1449). -/
def execVavgHu (s : State) : Result := lanewise2 16 (avgLane .U 16) s

/-- `vavg.w` (42_simd_lanewise.md R1450). -/
def execVavgW (s : State) : Result := lanewise2 32 (avgLane .S 32) s

/-- `vavg.wu` (42_simd_lanewise.md R1451). -/
def execVavgWu (s : State) : Result := lanewise2 32 (avgLane .U 32) s

/-- `vavg.d` (42_simd_lanewise.md R1452). -/
def execVavgD (s : State) : Result := lanewise2 64 (avgLane .S 64) s

/-- `vavg.du` (42_simd_lanewise.md R1453). -/
def execVavgDu (s : State) : Result := lanewise2 64 (avgLane .U 64) s

/-- `vavgr.b` (42_simd_lanewise.md R1454). -/
def execVavgrB (s : State) : Result := lanewise2 8 (avgrLane .S 8) s

/-- `vavgr.bu` (42_simd_lanewise.md R1455). -/
def execVavgrBu (s : State) : Result := lanewise2 8 (avgrLane .U 8) s

/-- `vavgr.h` (42_simd_lanewise.md R1456). -/
def execVavgrH (s : State) : Result := lanewise2 16 (avgrLane .S 16) s

/-- `vavgr.hu` (42_simd_lanewise.md R1457). -/
def execVavgrHu (s : State) : Result := lanewise2 16 (avgrLane .U 16) s

/-- `vavgr.w` (42_simd_lanewise.md R1458). -/
def execVavgrW (s : State) : Result := lanewise2 32 (avgrLane .S 32) s

/-- `vavgr.wu` (42_simd_lanewise.md R1459). -/
def execVavgrWu (s : State) : Result := lanewise2 32 (avgrLane .U 32) s

/-- `vavgr.d` (42_simd_lanewise.md R1460). -/
def execVavgrD (s : State) : Result := lanewise2 64 (avgrLane .S 64) s

/-- `vavgr.du` (42_simd_lanewise.md R1461). -/
def execVavgrDu (s : State) : Result := lanewise2 64 (avgrLane .U 64) s

/-- `vabsd.b` (42_simd_lanewise.md R1462). -/
def execVabsdB (s : State) : Result := lanewise2 8 (absdLane .S 8) s

/-- `vabsd.bu` (42_simd_lanewise.md R1463). -/
def execVabsdBu (s : State) : Result := lanewise2 8 (absdLane .U 8) s

/-- `vabsd.h` (42_simd_lanewise.md R1464). -/
def execVabsdH (s : State) : Result := lanewise2 16 (absdLane .S 16) s

/-- `vabsd.hu` (42_simd_lanewise.md R1465). -/
def execVabsdHu (s : State) : Result := lanewise2 16 (absdLane .U 16) s

/-- `vabsd.w` (42_simd_lanewise.md R1466). -/
def execVabsdW (s : State) : Result := lanewise2 32 (absdLane .S 32) s

/-- `vabsd.wu` (42_simd_lanewise.md R1467). -/
def execVabsdWu (s : State) : Result := lanewise2 32 (absdLane .U 32) s

/-- `vabsd.d` (42_simd_lanewise.md R1468). -/
def execVabsdD (s : State) : Result := lanewise2 64 (absdLane .S 64) s

/-- `vabsd.du` (42_simd_lanewise.md R1469). -/
def execVabsdDu (s : State) : Result := lanewise2 64 (absdLane .U 64) s

/-- `vabsdacc.b` (42_simd_lanewise.md R1470). -/
def execVabsdaccB (s : State) : Result := lanewise3 8 (absdaccLane .S 8) s

/-- `vabsdacc.bu` (42_simd_lanewise.md R1471). -/
def execVabsdaccBu (s : State) : Result := lanewise3 8 (absdaccLane .U 8) s

/-- `vabsdacc.h` (42_simd_lanewise.md R1472). -/
def execVabsdaccH (s : State) : Result := lanewise3 16 (absdaccLane .S 16) s

/-- `vabsdacc.hu` (42_simd_lanewise.md R1473). -/
def execVabsdaccHu (s : State) : Result := lanewise3 16 (absdaccLane .U 16) s

/-- `vabsdacc.w` (42_simd_lanewise.md R1474). -/
def execVabsdaccW (s : State) : Result := lanewise3 32 (absdaccLane .S 32) s

/-- `vabsdacc.wu` (42_simd_lanewise.md R1475). -/
def execVabsdaccWu (s : State) : Result := lanewise3 32 (absdaccLane .U 32) s

/-- `vabsdacc.d` (42_simd_lanewise.md R1476). -/
def execVabsdaccD (s : State) : Result := lanewise3 64 (absdaccLane .S 64) s

/-- `vabsdacc.du` (42_simd_lanewise.md R1477). -/
def execVabsdaccDu (s : State) : Result := lanewise3 64 (absdaccLane .U 64) s

end Sys2Proof.Machine
end

