-- ==== Sys2Proof/Machine/SimdMinMax.lean ====
section
/-! DEFINITION. The SIMD minimum and maximum commands (43_simd_minmax.md). -/

namespace Sys2Proof.Machine

/-- `vmin.b` (43_simd_minmax.md R1510). -/
def execVminB (s : State) : Result := lanewise2 8 (minLane .S 8) s

/-- `vmin.bu` (43_simd_minmax.md R1511). -/
def execVminBu (s : State) : Result := lanewise2 8 (minLane .U 8) s

/-- `vmin.h` (43_simd_minmax.md R1512). -/
def execVminH (s : State) : Result := lanewise2 16 (minLane .S 16) s

/-- `vmin.hu` (43_simd_minmax.md R1513). -/
def execVminHu (s : State) : Result := lanewise2 16 (minLane .U 16) s

/-- `vmin.w` (43_simd_minmax.md R1514). -/
def execVminW (s : State) : Result := lanewise2 32 (minLane .S 32) s

/-- `vmin.wu` (43_simd_minmax.md R1515). -/
def execVminWu (s : State) : Result := lanewise2 32 (minLane .U 32) s

/-- `vmin.d` (43_simd_minmax.md R1516). -/
def execVminD (s : State) : Result := lanewise2 64 (minLane .S 64) s

/-- `vmin.du` (43_simd_minmax.md R1517). -/
def execVminDu (s : State) : Result := lanewise2 64 (minLane .U 64) s

/-- `vmax.b` (43_simd_minmax.md R1518). -/
def execVmaxB (s : State) : Result := lanewise2 8 (maxLane .S 8) s

/-- `vmax.bu` (43_simd_minmax.md R1519). -/
def execVmaxBu (s : State) : Result := lanewise2 8 (maxLane .U 8) s

/-- `vmax.h` (43_simd_minmax.md R1520). -/
def execVmaxH (s : State) : Result := lanewise2 16 (maxLane .S 16) s

/-- `vmax.hu` (43_simd_minmax.md R1521). -/
def execVmaxHu (s : State) : Result := lanewise2 16 (maxLane .U 16) s

/-- `vmax.w` (43_simd_minmax.md R1522). -/
def execVmaxW (s : State) : Result := lanewise2 32 (maxLane .S 32) s

/-- `vmax.wu` (43_simd_minmax.md R1523). -/
def execVmaxWu (s : State) : Result := lanewise2 32 (maxLane .U 32) s

/-- `vmax.d` (43_simd_minmax.md R1524). -/
def execVmaxD (s : State) : Result := lanewise2 64 (maxLane .S 64) s

/-- `vmax.du` (43_simd_minmax.md R1525). -/
def execVmaxDu (s : State) : Result := lanewise2 64 (maxLane .U 64) s

/-- `vmini.b` (43_simd_minmax.md R1526). -/
def execVminiB (s : State) : Result := lanewiseImm .S 8 (minLane .S 8) s

/-- `vmini.bu` (43_simd_minmax.md R1527). -/
def execVminiBu (s : State) : Result := lanewiseImm .U 8 (minLane .U 8) s

/-- `vmini.h` (43_simd_minmax.md R1528). -/
def execVminiH (s : State) : Result := lanewiseImm .S 16 (minLane .S 16) s

/-- `vmini.hu` (43_simd_minmax.md R1529). -/
def execVminiHu (s : State) : Result := lanewiseImm .U 16 (minLane .U 16) s

/-- `vmini.w` (43_simd_minmax.md R1530). -/
def execVminiW (s : State) : Result := lanewiseImm .S 32 (minLane .S 32) s

/-- `vmini.wu` (43_simd_minmax.md R1531). -/
def execVminiWu (s : State) : Result := lanewiseImm .U 32 (minLane .U 32) s

/-- `vmini.d` (43_simd_minmax.md R1532). -/
def execVminiD (s : State) : Result := lanewiseImm .S 64 (minLane .S 64) s

/-- `vmini.du` (43_simd_minmax.md R1533). -/
def execVminiDu (s : State) : Result := lanewiseImm .U 64 (minLane .U 64) s

/-- `vmaxi.b` (43_simd_minmax.md R1534). -/
def execVmaxiB (s : State) : Result := lanewiseImm .S 8 (maxLane .S 8) s

/-- `vmaxi.bu` (43_simd_minmax.md R1535). -/
def execVmaxiBu (s : State) : Result := lanewiseImm .U 8 (maxLane .U 8) s

/-- `vmaxi.h` (43_simd_minmax.md R1536). -/
def execVmaxiH (s : State) : Result := lanewiseImm .S 16 (maxLane .S 16) s

/-- `vmaxi.hu` (43_simd_minmax.md R1537). -/
def execVmaxiHu (s : State) : Result := lanewiseImm .U 16 (maxLane .U 16) s

/-- `vmaxi.w` (43_simd_minmax.md R1538). -/
def execVmaxiW (s : State) : Result := lanewiseImm .S 32 (maxLane .S 32) s

/-- `vmaxi.wu` (43_simd_minmax.md R1539). -/
def execVmaxiWu (s : State) : Result := lanewiseImm .U 32 (maxLane .U 32) s

/-- `vmaxi.d` (43_simd_minmax.md R1540). -/
def execVmaxiD (s : State) : Result := lanewiseImm .S 64 (maxLane .S 64) s

/-- `vmaxi.du` (43_simd_minmax.md R1541). -/
def execVmaxiDu (s : State) : Result := lanewiseImm .U 64 (maxLane .U 64) s

end Sys2Proof.Machine
end

