-- ==== Sys2Proof/Machine/SimdMultiply.lean ====
section
/-! DEFINITION. The SIMD multiply commands (44_simd_multiply.md). -/

namespace Sys2Proof.Machine

/-- `vmul.b` (44_simd_multiply.md R1610). -/
def execVmulB (s : State) : Result := lanewise2 8 (mulLane 8) s

/-- `vmul.h` (44_simd_multiply.md R1611). -/
def execVmulH (s : State) : Result := lanewise2 16 (mulLane 16) s

/-- `vmul.w` (44_simd_multiply.md R1612). -/
def execVmulW (s : State) : Result := lanewise2 32 (mulLane 32) s

/-- `vmul.d` (44_simd_multiply.md R1613). -/
def execVmulD (s : State) : Result := lanewise2 64 (mulLane 64) s

/-- `vmuh.b` (44_simd_multiply.md R1614). -/
def execVmuhB (s : State) : Result := lanewise2 8 (muhLane .S 8) s

/-- `vmuh.bu` (44_simd_multiply.md R1615). -/
def execVmuhBu (s : State) : Result := lanewise2 8 (muhLane .U 8) s

/-- `vmuh.h` (44_simd_multiply.md R1616). -/
def execVmuhH (s : State) : Result := lanewise2 16 (muhLane .S 16) s

/-- `vmuh.hu` (44_simd_multiply.md R1617). -/
def execVmuhHu (s : State) : Result := lanewise2 16 (muhLane .U 16) s

/-- `vmuh.w` (44_simd_multiply.md R1618). -/
def execVmuhW (s : State) : Result := lanewise2 32 (muhLane .S 32) s

/-- `vmuh.wu` (44_simd_multiply.md R1619). -/
def execVmuhWu (s : State) : Result := lanewise2 32 (muhLane .U 32) s

/-- `vmuh.d` (44_simd_multiply.md R1620). -/
def execVmuhD (s : State) : Result := lanewise2 64 (muhLane .S 64) s

/-- `vmuh.du` (44_simd_multiply.md R1621). -/
def execVmuhDu (s : State) : Result := lanewise2 64 (muhLane .U 64) s

/-- `vmadd.b` (44_simd_multiply.md R1622). -/
def execVmaddB (s : State) : Result := lanewise3 8 (maddLane 8) s

/-- `vmadd.h` (44_simd_multiply.md R1623). -/
def execVmaddH (s : State) : Result := lanewise3 16 (maddLane 16) s

/-- `vmadd.w` (44_simd_multiply.md R1624). -/
def execVmaddW (s : State) : Result := lanewise3 32 (maddLane 32) s

/-- `vmadd.d` (44_simd_multiply.md R1625). -/
def execVmaddD (s : State) : Result := lanewise3 64 (maddLane 64) s

/-- `vmsub.b` (44_simd_multiply.md R1626). -/
def execVmsubB (s : State) : Result := lanewise3 8 (msubLane 8) s

/-- `vmsub.h` (44_simd_multiply.md R1627). -/
def execVmsubH (s : State) : Result := lanewise3 16 (msubLane 16) s

/-- `vmsub.w` (44_simd_multiply.md R1628). -/
def execVmsubW (s : State) : Result := lanewise3 32 (msubLane 32) s

/-- `vmsub.d` (44_simd_multiply.md R1629). -/
def execVmsubD (s : State) : Result := lanewise3 64 (msubLane 64) s

end Sys2Proof.Machine
end

