-- ==== Sys2Proof/Machine/SimdWidenMul.lean ====
section
/-! DEFINITION. The widening multiply commands (45_simd_widening_multiply.md). -/

namespace Sys2Proof.Machine

/-- `vmulwev.h.b` (45_simd_widening_multiply.md R1710). -/
def execVmulwevHB (s : State) : Result := widen 8 .ev .ev .S .S timesZ s

/-- `vmulwev.hu.bu` (45_simd_widening_multiply.md R1711). -/
def execVmulwevHuBu (s : State) : Result := widen 8 .ev .ev .U .U timesZ s

/-- `vmulwev.h.bu.b` (45_simd_widening_multiply.md R1712). -/
def execVmulwevHBuB (s : State) : Result := widen 8 .ev .ev .U .S timesZ s

/-- `vmulwev.w.h` (45_simd_widening_multiply.md R1713). -/
def execVmulwevWH (s : State) : Result := widen 16 .ev .ev .S .S timesZ s

/-- `vmulwev.wu.hu` (45_simd_widening_multiply.md R1714). -/
def execVmulwevWuHu (s : State) : Result := widen 16 .ev .ev .U .U timesZ s

/-- `vmulwev.w.hu.h` (45_simd_widening_multiply.md R1715). -/
def execVmulwevWHuH (s : State) : Result := widen 16 .ev .ev .U .S timesZ s

/-- `vmulwev.d.w` (45_simd_widening_multiply.md R1716). -/
def execVmulwevDW (s : State) : Result := widen 32 .ev .ev .S .S timesZ s

/-- `vmulwev.du.wu` (45_simd_widening_multiply.md R1717). -/
def execVmulwevDuWu (s : State) : Result := widen 32 .ev .ev .U .U timesZ s

/-- `vmulwev.d.wu.w` (45_simd_widening_multiply.md R1718). -/
def execVmulwevDWuW (s : State) : Result := widen 32 .ev .ev .U .S timesZ s

/-- `vmulwev.q.d` (45_simd_widening_multiply.md R1719). -/
def execVmulwevQD (s : State) : Result := widen 64 .ev .ev .S .S timesZ s

/-- `vmulwev.qu.du` (45_simd_widening_multiply.md R1720). -/
def execVmulwevQuDu (s : State) : Result := widen 64 .ev .ev .U .U timesZ s

/-- `vmulwev.q.du.d` (45_simd_widening_multiply.md R1721). -/
def execVmulwevQDuD (s : State) : Result := widen 64 .ev .ev .U .S timesZ s

/-- `vmulwod.h.b` (45_simd_widening_multiply.md R1722). -/
def execVmulwodHB (s : State) : Result := widen 8 .od .od .S .S timesZ s

/-- `vmulwod.hu.bu` (45_simd_widening_multiply.md R1723). -/
def execVmulwodHuBu (s : State) : Result := widen 8 .od .od .U .U timesZ s

/-- `vmulwod.h.bu.b` (45_simd_widening_multiply.md R1724). -/
def execVmulwodHBuB (s : State) : Result := widen 8 .od .od .U .S timesZ s

/-- `vmulwod.w.h` (45_simd_widening_multiply.md R1725). -/
def execVmulwodWH (s : State) : Result := widen 16 .od .od .S .S timesZ s

/-- `vmulwod.wu.hu` (45_simd_widening_multiply.md R1726). -/
def execVmulwodWuHu (s : State) : Result := widen 16 .od .od .U .U timesZ s

/-- `vmulwod.w.hu.h` (45_simd_widening_multiply.md R1727). -/
def execVmulwodWHuH (s : State) : Result := widen 16 .od .od .U .S timesZ s

/-- `vmulwod.d.w` (45_simd_widening_multiply.md R1728). -/
def execVmulwodDW (s : State) : Result := widen 32 .od .od .S .S timesZ s

/-- `vmulwod.du.wu` (45_simd_widening_multiply.md R1729). -/
def execVmulwodDuWu (s : State) : Result := widen 32 .od .od .U .U timesZ s

/-- `vmulwod.d.wu.w` (45_simd_widening_multiply.md R1730). -/
def execVmulwodDWuW (s : State) : Result := widen 32 .od .od .U .S timesZ s

/-- `vmulwod.q.d` (45_simd_widening_multiply.md R1731). -/
def execVmulwodQD (s : State) : Result := widen 64 .od .od .S .S timesZ s

/-- `vmulwod.qu.du` (45_simd_widening_multiply.md R1732). -/
def execVmulwodQuDu (s : State) : Result := widen 64 .od .od .U .U timesZ s

/-- `vmulwod.q.du.d` (45_simd_widening_multiply.md R1733). -/
def execVmulwodQDuD (s : State) : Result := widen 64 .od .od .U .S timesZ s

/-- `vmaddwev.h.b` (45_simd_widening_multiply.md R1734). -/
def execVmaddwevHB (s : State) : Result := widenAcc 8 .ev .S .S plusZ s

/-- `vmaddwev.hu.bu` (45_simd_widening_multiply.md R1735). -/
def execVmaddwevHuBu (s : State) : Result := widenAcc 8 .ev .U .U plusZ s

/-- `vmaddwev.h.bu.b` (45_simd_widening_multiply.md R1736). -/
def execVmaddwevHBuB (s : State) : Result := widenAcc 8 .ev .U .S plusZ s

/-- `vmaddwev.w.h` (45_simd_widening_multiply.md R1737). -/
def execVmaddwevWH (s : State) : Result := widenAcc 16 .ev .S .S plusZ s

/-- `vmaddwev.wu.hu` (45_simd_widening_multiply.md R1738). -/
def execVmaddwevWuHu (s : State) : Result := widenAcc 16 .ev .U .U plusZ s

/-- `vmaddwev.w.hu.h` (45_simd_widening_multiply.md R1739). -/
def execVmaddwevWHuH (s : State) : Result := widenAcc 16 .ev .U .S plusZ s

/-- `vmaddwev.d.w` (45_simd_widening_multiply.md R1740). -/
def execVmaddwevDW (s : State) : Result := widenAcc 32 .ev .S .S plusZ s

/-- `vmaddwev.du.wu` (45_simd_widening_multiply.md R1741). -/
def execVmaddwevDuWu (s : State) : Result := widenAcc 32 .ev .U .U plusZ s

/-- `vmaddwev.d.wu.w` (45_simd_widening_multiply.md R1742). -/
def execVmaddwevDWuW (s : State) : Result := widenAcc 32 .ev .U .S plusZ s

/-- `vmaddwev.q.d` (45_simd_widening_multiply.md R1743). -/
def execVmaddwevQD (s : State) : Result := widenAcc 64 .ev .S .S plusZ s

/-- `vmaddwev.qu.du` (45_simd_widening_multiply.md R1744). -/
def execVmaddwevQuDu (s : State) : Result := widenAcc 64 .ev .U .U plusZ s

/-- `vmaddwev.q.du.d` (45_simd_widening_multiply.md R1745). -/
def execVmaddwevQDuD (s : State) : Result := widenAcc 64 .ev .U .S plusZ s

/-- `vmaddwod.h.b` (45_simd_widening_multiply.md R1746). -/
def execVmaddwodHB (s : State) : Result := widenAcc 8 .od .S .S plusZ s

/-- `vmaddwod.hu.bu` (45_simd_widening_multiply.md R1747). -/
def execVmaddwodHuBu (s : State) : Result := widenAcc 8 .od .U .U plusZ s

/-- `vmaddwod.h.bu.b` (45_simd_widening_multiply.md R1748). -/
def execVmaddwodHBuB (s : State) : Result := widenAcc 8 .od .U .S plusZ s

/-- `vmaddwod.w.h` (45_simd_widening_multiply.md R1749). -/
def execVmaddwodWH (s : State) : Result := widenAcc 16 .od .S .S plusZ s

/-- `vmaddwod.wu.hu` (45_simd_widening_multiply.md R1750). -/
def execVmaddwodWuHu (s : State) : Result := widenAcc 16 .od .U .U plusZ s

/-- `vmaddwod.w.hu.h` (45_simd_widening_multiply.md R1751). -/
def execVmaddwodWHuH (s : State) : Result := widenAcc 16 .od .U .S plusZ s

/-- `vmaddwod.d.w` (45_simd_widening_multiply.md R1752). -/
def execVmaddwodDW (s : State) : Result := widenAcc 32 .od .S .S plusZ s

/-- `vmaddwod.du.wu` (45_simd_widening_multiply.md R1753). -/
def execVmaddwodDuWu (s : State) : Result := widenAcc 32 .od .U .U plusZ s

/-- `vmaddwod.d.wu.w` (45_simd_widening_multiply.md R1754). -/
def execVmaddwodDWuW (s : State) : Result := widenAcc 32 .od .U .S plusZ s

/-- `vmaddwod.q.d` (45_simd_widening_multiply.md R1755). -/
def execVmaddwodQD (s : State) : Result := widenAcc 64 .od .S .S plusZ s

/-- `vmaddwod.qu.du` (45_simd_widening_multiply.md R1756). -/
def execVmaddwodQuDu (s : State) : Result := widenAcc 64 .od .U .U plusZ s

/-- `vmaddwod.q.du.d` (45_simd_widening_multiply.md R1757). -/
def execVmaddwodQDuD (s : State) : Result := widenAcc 64 .od .U .S plusZ s

/-- `vmsubwev.h.b` (45_simd_widening_multiply.md R1758). -/
def execVmsubwevHB (s : State) : Result := widenAcc 8 .ev .S .S minusZ s

/-- `vmsubwev.hu.bu` (45_simd_widening_multiply.md R1759). -/
def execVmsubwevHuBu (s : State) : Result := widenAcc 8 .ev .U .U minusZ s

/-- `vmsubwev.h.bu.b` (45_simd_widening_multiply.md R1760). -/
def execVmsubwevHBuB (s : State) : Result := widenAcc 8 .ev .U .S minusZ s

/-- `vmsubwev.w.h` (45_simd_widening_multiply.md R1761). -/
def execVmsubwevWH (s : State) : Result := widenAcc 16 .ev .S .S minusZ s

/-- `vmsubwev.wu.hu` (45_simd_widening_multiply.md R1762). -/
def execVmsubwevWuHu (s : State) : Result := widenAcc 16 .ev .U .U minusZ s

/-- `vmsubwev.w.hu.h` (45_simd_widening_multiply.md R1763). -/
def execVmsubwevWHuH (s : State) : Result := widenAcc 16 .ev .U .S minusZ s

/-- `vmsubwev.d.w` (45_simd_widening_multiply.md R1764). -/
def execVmsubwevDW (s : State) : Result := widenAcc 32 .ev .S .S minusZ s

/-- `vmsubwev.du.wu` (45_simd_widening_multiply.md R1765). -/
def execVmsubwevDuWu (s : State) : Result := widenAcc 32 .ev .U .U minusZ s

/-- `vmsubwev.d.wu.w` (45_simd_widening_multiply.md R1766). -/
def execVmsubwevDWuW (s : State) : Result := widenAcc 32 .ev .U .S minusZ s

/-- `vmsubwev.q.d` (45_simd_widening_multiply.md R1767). -/
def execVmsubwevQD (s : State) : Result := widenAcc 64 .ev .S .S minusZ s

/-- `vmsubwev.qu.du` (45_simd_widening_multiply.md R1768). -/
def execVmsubwevQuDu (s : State) : Result := widenAcc 64 .ev .U .U minusZ s

/-- `vmsubwev.q.du.d` (45_simd_widening_multiply.md R1769). -/
def execVmsubwevQDuD (s : State) : Result := widenAcc 64 .ev .U .S minusZ s

/-- `vmsubwod.h.b` (45_simd_widening_multiply.md R1770). -/
def execVmsubwodHB (s : State) : Result := widenAcc 8 .od .S .S minusZ s

/-- `vmsubwod.hu.bu` (45_simd_widening_multiply.md R1771). -/
def execVmsubwodHuBu (s : State) : Result := widenAcc 8 .od .U .U minusZ s

/-- `vmsubwod.h.bu.b` (45_simd_widening_multiply.md R1772). -/
def execVmsubwodHBuB (s : State) : Result := widenAcc 8 .od .U .S minusZ s

/-- `vmsubwod.w.h` (45_simd_widening_multiply.md R1773). -/
def execVmsubwodWH (s : State) : Result := widenAcc 16 .od .S .S minusZ s

/-- `vmsubwod.wu.hu` (45_simd_widening_multiply.md R1774). -/
def execVmsubwodWuHu (s : State) : Result := widenAcc 16 .od .U .U minusZ s

/-- `vmsubwod.w.hu.h` (45_simd_widening_multiply.md R1775). -/
def execVmsubwodWHuH (s : State) : Result := widenAcc 16 .od .U .S minusZ s

/-- `vmsubwod.d.w` (45_simd_widening_multiply.md R1776). -/
def execVmsubwodDW (s : State) : Result := widenAcc 32 .od .S .S minusZ s

/-- `vmsubwod.du.wu` (45_simd_widening_multiply.md R1777). -/
def execVmsubwodDuWu (s : State) : Result := widenAcc 32 .od .U .U minusZ s

/-- `vmsubwod.d.wu.w` (45_simd_widening_multiply.md R1778). -/
def execVmsubwodDWuW (s : State) : Result := widenAcc 32 .od .U .S minusZ s

/-- `vmsubwod.q.d` (45_simd_widening_multiply.md R1779). -/
def execVmsubwodQD (s : State) : Result := widenAcc 64 .od .S .S minusZ s

/-- `vmsubwod.qu.du` (45_simd_widening_multiply.md R1780). -/
def execVmsubwodQuDu (s : State) : Result := widenAcc 64 .od .U .U minusZ s

/-- `vmsubwod.q.du.d` (45_simd_widening_multiply.md R1781). -/
def execVmsubwodQDuD (s : State) : Result := widenAcc 64 .od .U .S minusZ s

end Sys2Proof.Machine
end

