-- ==== Sys2Proof/Machine/SimdWidenNarrow.lean ====
section
/-! DEFINITION. The widening add and subtract and the narrowing commands (46_simd_widen_narrow.md). -/

namespace Sys2Proof.Machine

/-- `vhaddw.h.b` (46_simd_widen_narrow.md R1810). -/
def execVhaddwHB (s : State) : Result := widen 8 .od .ev .S .S plusZ s

/-- `vhaddw.hu.bu` (46_simd_widen_narrow.md R1811). -/
def execVhaddwHuBu (s : State) : Result := widen 8 .od .ev .U .U plusZ s

/-- `vhaddw.h.bu.b` (46_simd_widen_narrow.md R1812). -/
def execVhaddwHBuB (s : State) : Result := widen 8 .od .ev .U .S plusZ s

/-- `vhaddw.w.h` (46_simd_widen_narrow.md R1813). -/
def execVhaddwWH (s : State) : Result := widen 16 .od .ev .S .S plusZ s

/-- `vhaddw.wu.hu` (46_simd_widen_narrow.md R1814). -/
def execVhaddwWuHu (s : State) : Result := widen 16 .od .ev .U .U plusZ s

/-- `vhaddw.w.hu.h` (46_simd_widen_narrow.md R1815). -/
def execVhaddwWHuH (s : State) : Result := widen 16 .od .ev .U .S plusZ s

/-- `vhaddw.d.w` (46_simd_widen_narrow.md R1816). -/
def execVhaddwDW (s : State) : Result := widen 32 .od .ev .S .S plusZ s

/-- `vhaddw.du.wu` (46_simd_widen_narrow.md R1817). -/
def execVhaddwDuWu (s : State) : Result := widen 32 .od .ev .U .U plusZ s

/-- `vhaddw.d.wu.w` (46_simd_widen_narrow.md R1818). -/
def execVhaddwDWuW (s : State) : Result := widen 32 .od .ev .U .S plusZ s

/-- `vhaddw.q.d` (46_simd_widen_narrow.md R1819). -/
def execVhaddwQD (s : State) : Result := widen 64 .od .ev .S .S plusZ s

/-- `vhaddw.qu.du` (46_simd_widen_narrow.md R1820). -/
def execVhaddwQuDu (s : State) : Result := widen 64 .od .ev .U .U plusZ s

/-- `vhaddw.q.du.d` (46_simd_widen_narrow.md R1821). -/
def execVhaddwQDuD (s : State) : Result := widen 64 .od .ev .U .S plusZ s

/-- `vhsubw.h.b` (46_simd_widen_narrow.md R1822). -/
def execVhsubwHB (s : State) : Result := widen 8 .od .ev .S .S minusZ s

/-- `vhsubw.hu.bu` (46_simd_widen_narrow.md R1823). -/
def execVhsubwHuBu (s : State) : Result := widen 8 .od .ev .U .U minusZ s

/-- `vhsubw.h.bu.b` (46_simd_widen_narrow.md R1824). -/
def execVhsubwHBuB (s : State) : Result := widen 8 .od .ev .U .S minusZ s

/-- `vhsubw.w.h` (46_simd_widen_narrow.md R1825). -/
def execVhsubwWH (s : State) : Result := widen 16 .od .ev .S .S minusZ s

/-- `vhsubw.wu.hu` (46_simd_widen_narrow.md R1826). -/
def execVhsubwWuHu (s : State) : Result := widen 16 .od .ev .U .U minusZ s

/-- `vhsubw.w.hu.h` (46_simd_widen_narrow.md R1827). -/
def execVhsubwWHuH (s : State) : Result := widen 16 .od .ev .U .S minusZ s

/-- `vhsubw.d.w` (46_simd_widen_narrow.md R1828). -/
def execVhsubwDW (s : State) : Result := widen 32 .od .ev .S .S minusZ s

/-- `vhsubw.du.wu` (46_simd_widen_narrow.md R1829). -/
def execVhsubwDuWu (s : State) : Result := widen 32 .od .ev .U .U minusZ s

/-- `vhsubw.d.wu.w` (46_simd_widen_narrow.md R1830). -/
def execVhsubwDWuW (s : State) : Result := widen 32 .od .ev .U .S minusZ s

/-- `vhsubw.q.d` (46_simd_widen_narrow.md R1831). -/
def execVhsubwQD (s : State) : Result := widen 64 .od .ev .S .S minusZ s

/-- `vhsubw.qu.du` (46_simd_widen_narrow.md R1832). -/
def execVhsubwQuDu (s : State) : Result := widen 64 .od .ev .U .U minusZ s

/-- `vhsubw.q.du.d` (46_simd_widen_narrow.md R1833). -/
def execVhsubwQDuD (s : State) : Result := widen 64 .od .ev .U .S minusZ s

/-- `vaddwev.h.b` (46_simd_widen_narrow.md R1834). -/
def execVaddwevHB (s : State) : Result := widen 8 .ev .ev .S .S plusZ s

/-- `vaddwev.hu.bu` (46_simd_widen_narrow.md R1835). -/
def execVaddwevHuBu (s : State) : Result := widen 8 .ev .ev .U .U plusZ s

/-- `vaddwev.h.bu.b` (46_simd_widen_narrow.md R1836). -/
def execVaddwevHBuB (s : State) : Result := widen 8 .ev .ev .U .S plusZ s

/-- `vaddwev.w.h` (46_simd_widen_narrow.md R1837). -/
def execVaddwevWH (s : State) : Result := widen 16 .ev .ev .S .S plusZ s

/-- `vaddwev.wu.hu` (46_simd_widen_narrow.md R1838). -/
def execVaddwevWuHu (s : State) : Result := widen 16 .ev .ev .U .U plusZ s

/-- `vaddwev.w.hu.h` (46_simd_widen_narrow.md R1839). -/
def execVaddwevWHuH (s : State) : Result := widen 16 .ev .ev .U .S plusZ s

/-- `vaddwev.d.w` (46_simd_widen_narrow.md R1840). -/
def execVaddwevDW (s : State) : Result := widen 32 .ev .ev .S .S plusZ s

/-- `vaddwev.du.wu` (46_simd_widen_narrow.md R1841). -/
def execVaddwevDuWu (s : State) : Result := widen 32 .ev .ev .U .U plusZ s

/-- `vaddwev.d.wu.w` (46_simd_widen_narrow.md R1842). -/
def execVaddwevDWuW (s : State) : Result := widen 32 .ev .ev .U .S plusZ s

/-- `vaddwev.q.d` (46_simd_widen_narrow.md R1843). -/
def execVaddwevQD (s : State) : Result := widen 64 .ev .ev .S .S plusZ s

/-- `vaddwev.qu.du` (46_simd_widen_narrow.md R1844). -/
def execVaddwevQuDu (s : State) : Result := widen 64 .ev .ev .U .U plusZ s

/-- `vaddwev.q.du.d` (46_simd_widen_narrow.md R1845). -/
def execVaddwevQDuD (s : State) : Result := widen 64 .ev .ev .U .S plusZ s

/-- `vaddwod.h.b` (46_simd_widen_narrow.md R1846). -/
def execVaddwodHB (s : State) : Result := widen 8 .od .od .S .S plusZ s

/-- `vaddwod.hu.bu` (46_simd_widen_narrow.md R1847). -/
def execVaddwodHuBu (s : State) : Result := widen 8 .od .od .U .U plusZ s

/-- `vaddwod.h.bu.b` (46_simd_widen_narrow.md R1848). -/
def execVaddwodHBuB (s : State) : Result := widen 8 .od .od .U .S plusZ s

/-- `vaddwod.w.h` (46_simd_widen_narrow.md R1849). -/
def execVaddwodWH (s : State) : Result := widen 16 .od .od .S .S plusZ s

/-- `vaddwod.wu.hu` (46_simd_widen_narrow.md R1850). -/
def execVaddwodWuHu (s : State) : Result := widen 16 .od .od .U .U plusZ s

/-- `vaddwod.w.hu.h` (46_simd_widen_narrow.md R1851). -/
def execVaddwodWHuH (s : State) : Result := widen 16 .od .od .U .S plusZ s

/-- `vaddwod.d.w` (46_simd_widen_narrow.md R1852). -/
def execVaddwodDW (s : State) : Result := widen 32 .od .od .S .S plusZ s

/-- `vaddwod.du.wu` (46_simd_widen_narrow.md R1853). -/
def execVaddwodDuWu (s : State) : Result := widen 32 .od .od .U .U plusZ s

/-- `vaddwod.d.wu.w` (46_simd_widen_narrow.md R1854). -/
def execVaddwodDWuW (s : State) : Result := widen 32 .od .od .U .S plusZ s

/-- `vaddwod.q.d` (46_simd_widen_narrow.md R1855). -/
def execVaddwodQD (s : State) : Result := widen 64 .od .od .S .S plusZ s

/-- `vaddwod.qu.du` (46_simd_widen_narrow.md R1856). -/
def execVaddwodQuDu (s : State) : Result := widen 64 .od .od .U .U plusZ s

/-- `vaddwod.q.du.d` (46_simd_widen_narrow.md R1857). -/
def execVaddwodQDuD (s : State) : Result := widen 64 .od .od .U .S plusZ s

/-- `vsubwev.h.b` (46_simd_widen_narrow.md R1858). -/
def execVsubwevHB (s : State) : Result := widen 8 .ev .ev .S .S minusZ s

/-- `vsubwev.hu.bu` (46_simd_widen_narrow.md R1859). -/
def execVsubwevHuBu (s : State) : Result := widen 8 .ev .ev .U .U minusZ s

/-- `vsubwev.h.bu.b` (46_simd_widen_narrow.md R1860). -/
def execVsubwevHBuB (s : State) : Result := widen 8 .ev .ev .U .S minusZ s

/-- `vsubwev.w.h` (46_simd_widen_narrow.md R1861). -/
def execVsubwevWH (s : State) : Result := widen 16 .ev .ev .S .S minusZ s

/-- `vsubwev.wu.hu` (46_simd_widen_narrow.md R1862). -/
def execVsubwevWuHu (s : State) : Result := widen 16 .ev .ev .U .U minusZ s

/-- `vsubwev.w.hu.h` (46_simd_widen_narrow.md R1863). -/
def execVsubwevWHuH (s : State) : Result := widen 16 .ev .ev .U .S minusZ s

/-- `vsubwev.d.w` (46_simd_widen_narrow.md R1864). -/
def execVsubwevDW (s : State) : Result := widen 32 .ev .ev .S .S minusZ s

/-- `vsubwev.du.wu` (46_simd_widen_narrow.md R1865). -/
def execVsubwevDuWu (s : State) : Result := widen 32 .ev .ev .U .U minusZ s

/-- `vsubwev.d.wu.w` (46_simd_widen_narrow.md R1866). -/
def execVsubwevDWuW (s : State) : Result := widen 32 .ev .ev .U .S minusZ s

/-- `vsubwev.q.d` (46_simd_widen_narrow.md R1867). -/
def execVsubwevQD (s : State) : Result := widen 64 .ev .ev .S .S minusZ s

/-- `vsubwev.qu.du` (46_simd_widen_narrow.md R1868). -/
def execVsubwevQuDu (s : State) : Result := widen 64 .ev .ev .U .U minusZ s

/-- `vsubwev.q.du.d` (46_simd_widen_narrow.md R1869). -/
def execVsubwevQDuD (s : State) : Result := widen 64 .ev .ev .U .S minusZ s

/-- `vsubwod.h.b` (46_simd_widen_narrow.md R1870). -/
def execVsubwodHB (s : State) : Result := widen 8 .od .od .S .S minusZ s

/-- `vsubwod.hu.bu` (46_simd_widen_narrow.md R1871). -/
def execVsubwodHuBu (s : State) : Result := widen 8 .od .od .U .U minusZ s

/-- `vsubwod.h.bu.b` (46_simd_widen_narrow.md R1872). -/
def execVsubwodHBuB (s : State) : Result := widen 8 .od .od .U .S minusZ s

/-- `vsubwod.w.h` (46_simd_widen_narrow.md R1873). -/
def execVsubwodWH (s : State) : Result := widen 16 .od .od .S .S minusZ s

/-- `vsubwod.wu.hu` (46_simd_widen_narrow.md R1874). -/
def execVsubwodWuHu (s : State) : Result := widen 16 .od .od .U .U minusZ s

/-- `vsubwod.w.hu.h` (46_simd_widen_narrow.md R1875). -/
def execVsubwodWHuH (s : State) : Result := widen 16 .od .od .U .S minusZ s

/-- `vsubwod.d.w` (46_simd_widen_narrow.md R1876). -/
def execVsubwodDW (s : State) : Result := widen 32 .od .od .S .S minusZ s

/-- `vsubwod.du.wu` (46_simd_widen_narrow.md R1877). -/
def execVsubwodDuWu (s : State) : Result := widen 32 .od .od .U .U minusZ s

/-- `vsubwod.d.wu.w` (46_simd_widen_narrow.md R1878). -/
def execVsubwodDWuW (s : State) : Result := widen 32 .od .od .U .S minusZ s

/-- `vsubwod.q.d` (46_simd_widen_narrow.md R1879). -/
def execVsubwodQD (s : State) : Result := widen 64 .od .od .S .S minusZ s

/-- `vsubwod.qu.du` (46_simd_widen_narrow.md R1880). -/
def execVsubwodQuDu (s : State) : Result := widen 64 .od .od .U .U minusZ s

/-- `vsubwod.q.du.d` (46_simd_widen_narrow.md R1881). -/
def execVsubwodQDuD (s : State) : Result := widen 64 .od .od .U .S minusZ s

/-- `vnarrow.b.h` (46_simd_widen_narrow.md R1882). -/
def execVnarrowBH (s : State) : Result := narrow 8 (narrowWrap 8) s

/-- `vnarrow.h.w` (46_simd_widen_narrow.md R1883). -/
def execVnarrowHW (s : State) : Result := narrow 16 (narrowWrap 16) s

/-- `vnarrow.w.d` (46_simd_widen_narrow.md R1884). -/
def execVnarrowWD (s : State) : Result := narrow 32 (narrowWrap 32) s

/-- `vnarrow.d.q` (46_simd_widen_narrow.md R1885). -/
def execVnarrowDQ (s : State) : Result := narrow 64 (narrowWrap 64) s

/-- `vnarrows.b.h` (46_simd_widen_narrow.md R1886). -/
def execVnarrowsBH (s : State) : Result := narrow 8 (narrowSigned 8) s

/-- `vnarrows.h.w` (46_simd_widen_narrow.md R1887). -/
def execVnarrowsHW (s : State) : Result := narrow 16 (narrowSigned 16) s

/-- `vnarrows.w.d` (46_simd_widen_narrow.md R1888). -/
def execVnarrowsWD (s : State) : Result := narrow 32 (narrowSigned 32) s

/-- `vnarrows.d.q` (46_simd_widen_narrow.md R1889). -/
def execVnarrowsDQ (s : State) : Result := narrow 64 (narrowSigned 64) s

/-- `vnarrowu.bu.hu` (46_simd_widen_narrow.md R1890). -/
def execVnarrowuBuHu (s : State) : Result := narrow 8 (narrowUnsigned 8) s

/-- `vnarrowu.hu.wu` (46_simd_widen_narrow.md R1891). -/
def execVnarrowuHuWu (s : State) : Result := narrow 16 (narrowUnsigned 16) s

/-- `vnarrowu.wu.du` (46_simd_widen_narrow.md R1892). -/
def execVnarrowuWuDu (s : State) : Result := narrow 32 (narrowUnsigned 32) s

/-- `vnarrowu.du.qu` (46_simd_widen_narrow.md R1893). -/
def execVnarrowuDuQu (s : State) : Result := narrow 64 (narrowUnsigned 64) s

end Sys2Proof.Machine
end

