-- ==== Sys2Proof/Machine/Tlb.lean ====
section
/-! DEFINITION. The TLB commands (47_tlb.md). -/

namespace Sys2Proof.Machine

/-- `tlblookup.r` (47_tlb.md R2001). -/
def execTlblookupR (s : State) : Result := tlbLookup .R s

/-- `tlblookup.w` (47_tlb.md R2002). -/
def execTlblookupW (s : State) : Result := tlbLookup .W s

/-- `tlblookup.x` (47_tlb.md R2003). -/
def execTlblookupX (s : State) : Result := tlbLookup .X s

/-- `tlbfill` (47_tlb.md R2004): `XR` is the slot written. -/
def execTlbfill (s : State) : Result :=
  needKernel s (needAsid s (needDesc s
    (.next (respondScalar
      { s with
        tlb := fillTlb s.tlb s.rr (fillEntry s.cfg s.req.xa s.req.xb s.req.xc)
        rr := fillRr s.cfg s.tlb s.rr (fillEntry s.cfg s.req.xa s.req.xb s.req.xc) }
      (BitVec.ofNat 64 (fillSlot s.tlb s.rr (fillEntry s.cfg s.req.xa s.req.xb s.req.xc)))))))

/-- `tlbprobe` (47_tlb.md R2005): the ASID is the ASID CSR; a miss gives bit 63. -/
def execTlbprobe (s : State) : Result :=
  needKernel s
    (.next (respondScalar s
      (match matchIndex s.tlb s.asid (vpnOf s.cfg s.req.xa) with
      | some i => BitVec.ofNat 64 i
      | none => 0x8000000000000000)))

/-- `tlbinv.page` (47_tlb.md R2006). -/
def execTlbinvPage (s : State) : Result :=
  needKernel s (needAsid s
    (tlbInvalidate (fun e => e.hits (asidOf s.cfg s.req.xb) (vpnOf s.cfg s.req.xa)) s))

/-- `tlbinv.asid` (47_tlb.md R2007). -/
def execTlbinvAsid (s : State) : Result :=
  needKernel s (needAsid s
    (tlbInvalidate (fun e => e.v && !e.g && e.asid == asidOf s.cfg s.req.xb) s))

/-- `tlbinv.global` (47_tlb.md R2008). -/
def execTlbinvGlobal (s : State) : Result :=
  needKernel s (tlbInvalidate (fun e => e.v && e.g) s)

/-- `tlbinv.all` (47_tlb.md R2009). -/
def execTlbinvAll (s : State) : Result :=
  needKernel s (tlbInvalidate (fun _ => true) s)

end Sys2Proof.Machine
end

