-- ==== Sys2Proof/Machine/Dispatch.lean ====
section
/-! DEFINITION. The dispatcher: one arm per command, each one call of its meaning. -/

namespace Sys2Proof.Machine

def exec (i : Instr) (s : State) : Host.Outcome State Fault Refusal :=
  match i with
  | .faddS => Sys2Proof.Machine.execFaddS s
  | .faddD => Sys2Proof.Machine.execFaddD s
  | .fsubS => Sys2Proof.Machine.execFsubS s
  | .fsubD => Sys2Proof.Machine.execFsubD s
  | .fmulS => Sys2Proof.Machine.execFmulS s
  | .fmulD => Sys2Proof.Machine.execFmulD s
  | .fdivS => Sys2Proof.Machine.execFdivS s
  | .fdivD => Sys2Proof.Machine.execFdivD s
  | .fmaddS => Sys2Proof.Machine.execFmaddS s
  | .fmaddD => Sys2Proof.Machine.execFmaddD s
  | .fminS => Sys2Proof.Machine.execFminS s
  | .fminD => Sys2Proof.Machine.execFminD s
  | .fmaxS => Sys2Proof.Machine.execFmaxS s
  | .fmaxD => Sys2Proof.Machine.execFmaxD s
  | .fminaS => Sys2Proof.Machine.execFminaS s
  | .fminaD => Sys2Proof.Machine.execFminaD s
  | .fmaxaS => Sys2Proof.Machine.execFmaxaS s
  | .fmaxaD => Sys2Proof.Machine.execFmaxaD s
  | .fclassS => Sys2Proof.Machine.execFclassS s
  | .fclassD => Sys2Proof.Machine.execFclassD s
  | .fcmpQeqS => Sys2Proof.Machine.execFcmpQeqS s
  | .fcmpQeqD => Sys2Proof.Machine.execFcmpQeqD s
  | .fcmpQneS => Sys2Proof.Machine.execFcmpQneS s
  | .fcmpQneD => Sys2Proof.Machine.execFcmpQneD s
  | .fcmpQltS => Sys2Proof.Machine.execFcmpQltS s
  | .fcmpQltD => Sys2Proof.Machine.execFcmpQltD s
  | .fcmpQleS => Sys2Proof.Machine.execFcmpQleS s
  | .fcmpQleD => Sys2Proof.Machine.execFcmpQleD s
  | .fcmpQgtS => Sys2Proof.Machine.execFcmpQgtS s
  | .fcmpQgtD => Sys2Proof.Machine.execFcmpQgtD s
  | .fcmpQgeS => Sys2Proof.Machine.execFcmpQgeS s
  | .fcmpQgeD => Sys2Proof.Machine.execFcmpQgeD s
  | .fcmpSeqS => Sys2Proof.Machine.execFcmpSeqS s
  | .fcmpSeqD => Sys2Proof.Machine.execFcmpSeqD s
  | .fcmpSneS => Sys2Proof.Machine.execFcmpSneS s
  | .fcmpSneD => Sys2Proof.Machine.execFcmpSneD s
  | .fcmpSltS => Sys2Proof.Machine.execFcmpSltS s
  | .fcmpSltD => Sys2Proof.Machine.execFcmpSltD s
  | .fcmpSleS => Sys2Proof.Machine.execFcmpSleS s
  | .fcmpSleD => Sys2Proof.Machine.execFcmpSleD s
  | .fcmpSgtS => Sys2Proof.Machine.execFcmpSgtS s
  | .fcmpSgtD => Sys2Proof.Machine.execFcmpSgtD s
  | .fcmpSgeS => Sys2Proof.Machine.execFcmpSgeS s
  | .fcmpSgeD => Sys2Proof.Machine.execFcmpSgeD s
  | .fcvtSD => Sys2Proof.Machine.execFcvtSD s
  | .fcvtDS => Sys2Proof.Machine.execFcvtDS s
  | .ftintWS => Sys2Proof.Machine.execFtintWS s
  | .ftintrneWS => Sys2Proof.Machine.execFtintrneWS s
  | .ftintrzWS => Sys2Proof.Machine.execFtintrzWS s
  | .ftintrpWS => Sys2Proof.Machine.execFtintrpWS s
  | .ftintrmWS => Sys2Proof.Machine.execFtintrmWS s
  | .ftintLS => Sys2Proof.Machine.execFtintLS s
  | .ftintrneLS => Sys2Proof.Machine.execFtintrneLS s
  | .ftintrzLS => Sys2Proof.Machine.execFtintrzLS s
  | .ftintrpLS => Sys2Proof.Machine.execFtintrpLS s
  | .ftintrmLS => Sys2Proof.Machine.execFtintrmLS s
  | .ftintWD => Sys2Proof.Machine.execFtintWD s
  | .ftintrneWD => Sys2Proof.Machine.execFtintrneWD s
  | .ftintrzWD => Sys2Proof.Machine.execFtintrzWD s
  | .ftintrpWD => Sys2Proof.Machine.execFtintrpWD s
  | .ftintrmWD => Sys2Proof.Machine.execFtintrmWD s
  | .ftintLD => Sys2Proof.Machine.execFtintLD s
  | .ftintrneLD => Sys2Proof.Machine.execFtintrneLD s
  | .ftintrzLD => Sys2Proof.Machine.execFtintrzLD s
  | .ftintrpLD => Sys2Proof.Machine.execFtintrpLD s
  | .ftintrmLD => Sys2Proof.Machine.execFtintrmLD s
  | .ffintSW => Sys2Proof.Machine.execFfintSW s
  | .ffintSL => Sys2Proof.Machine.execFfintSL s
  | .ffintDW => Sys2Proof.Machine.execFfintDW s
  | .ffintDL => Sys2Proof.Machine.execFfintDL s
  | .vaddB => Sys2Proof.Machine.execVaddB s
  | .vaddH => Sys2Proof.Machine.execVaddH s
  | .vaddW => Sys2Proof.Machine.execVaddW s
  | .vaddD => Sys2Proof.Machine.execVaddD s
  | .vaddQ => Sys2Proof.Machine.execVaddQ s
  | .vsubB => Sys2Proof.Machine.execVsubB s
  | .vsubH => Sys2Proof.Machine.execVsubH s
  | .vsubW => Sys2Proof.Machine.execVsubW s
  | .vsubD => Sys2Proof.Machine.execVsubD s
  | .vsubQ => Sys2Proof.Machine.execVsubQ s
  | .vsaddB => Sys2Proof.Machine.execVsaddB s
  | .vsaddBu => Sys2Proof.Machine.execVsaddBu s
  | .vsaddH => Sys2Proof.Machine.execVsaddH s
  | .vsaddHu => Sys2Proof.Machine.execVsaddHu s
  | .vsaddW => Sys2Proof.Machine.execVsaddW s
  | .vsaddWu => Sys2Proof.Machine.execVsaddWu s
  | .vsaddD => Sys2Proof.Machine.execVsaddD s
  | .vsaddDu => Sys2Proof.Machine.execVsaddDu s
  | .vssubB => Sys2Proof.Machine.execVssubB s
  | .vssubBu => Sys2Proof.Machine.execVssubBu s
  | .vssubH => Sys2Proof.Machine.execVssubH s
  | .vssubHu => Sys2Proof.Machine.execVssubHu s
  | .vssubW => Sys2Proof.Machine.execVssubW s
  | .vssubWu => Sys2Proof.Machine.execVssubWu s
  | .vssubD => Sys2Proof.Machine.execVssubD s
  | .vssubDu => Sys2Proof.Machine.execVssubDu s
  | .vavgB => Sys2Proof.Machine.execVavgB s
  | .vavgBu => Sys2Proof.Machine.execVavgBu s
  | .vavgH => Sys2Proof.Machine.execVavgH s
  | .vavgHu => Sys2Proof.Machine.execVavgHu s
  | .vavgW => Sys2Proof.Machine.execVavgW s
  | .vavgWu => Sys2Proof.Machine.execVavgWu s
  | .vavgD => Sys2Proof.Machine.execVavgD s
  | .vavgDu => Sys2Proof.Machine.execVavgDu s
  | .vavgrB => Sys2Proof.Machine.execVavgrB s
  | .vavgrBu => Sys2Proof.Machine.execVavgrBu s
  | .vavgrH => Sys2Proof.Machine.execVavgrH s
  | .vavgrHu => Sys2Proof.Machine.execVavgrHu s
  | .vavgrW => Sys2Proof.Machine.execVavgrW s
  | .vavgrWu => Sys2Proof.Machine.execVavgrWu s
  | .vavgrD => Sys2Proof.Machine.execVavgrD s
  | .vavgrDu => Sys2Proof.Machine.execVavgrDu s
  | .vabsdB => Sys2Proof.Machine.execVabsdB s
  | .vabsdBu => Sys2Proof.Machine.execVabsdBu s
  | .vabsdH => Sys2Proof.Machine.execVabsdH s
  | .vabsdHu => Sys2Proof.Machine.execVabsdHu s
  | .vabsdW => Sys2Proof.Machine.execVabsdW s
  | .vabsdWu => Sys2Proof.Machine.execVabsdWu s
  | .vabsdD => Sys2Proof.Machine.execVabsdD s
  | .vabsdDu => Sys2Proof.Machine.execVabsdDu s
  | .vabsdaccB => Sys2Proof.Machine.execVabsdaccB s
  | .vabsdaccBu => Sys2Proof.Machine.execVabsdaccBu s
  | .vabsdaccH => Sys2Proof.Machine.execVabsdaccH s
  | .vabsdaccHu => Sys2Proof.Machine.execVabsdaccHu s
  | .vabsdaccW => Sys2Proof.Machine.execVabsdaccW s
  | .vabsdaccWu => Sys2Proof.Machine.execVabsdaccWu s
  | .vabsdaccD => Sys2Proof.Machine.execVabsdaccD s
  | .vabsdaccDu => Sys2Proof.Machine.execVabsdaccDu s
  | .vminB => Sys2Proof.Machine.execVminB s
  | .vminBu => Sys2Proof.Machine.execVminBu s
  | .vminH => Sys2Proof.Machine.execVminH s
  | .vminHu => Sys2Proof.Machine.execVminHu s
  | .vminW => Sys2Proof.Machine.execVminW s
  | .vminWu => Sys2Proof.Machine.execVminWu s
  | .vminD => Sys2Proof.Machine.execVminD s
  | .vminDu => Sys2Proof.Machine.execVminDu s
  | .vmaxB => Sys2Proof.Machine.execVmaxB s
  | .vmaxBu => Sys2Proof.Machine.execVmaxBu s
  | .vmaxH => Sys2Proof.Machine.execVmaxH s
  | .vmaxHu => Sys2Proof.Machine.execVmaxHu s
  | .vmaxW => Sys2Proof.Machine.execVmaxW s
  | .vmaxWu => Sys2Proof.Machine.execVmaxWu s
  | .vmaxD => Sys2Proof.Machine.execVmaxD s
  | .vmaxDu => Sys2Proof.Machine.execVmaxDu s
  | .vminiB => Sys2Proof.Machine.execVminiB s
  | .vminiBu => Sys2Proof.Machine.execVminiBu s
  | .vminiH => Sys2Proof.Machine.execVminiH s
  | .vminiHu => Sys2Proof.Machine.execVminiHu s
  | .vminiW => Sys2Proof.Machine.execVminiW s
  | .vminiWu => Sys2Proof.Machine.execVminiWu s
  | .vminiD => Sys2Proof.Machine.execVminiD s
  | .vminiDu => Sys2Proof.Machine.execVminiDu s
  | .vmaxiB => Sys2Proof.Machine.execVmaxiB s
  | .vmaxiBu => Sys2Proof.Machine.execVmaxiBu s
  | .vmaxiH => Sys2Proof.Machine.execVmaxiH s
  | .vmaxiHu => Sys2Proof.Machine.execVmaxiHu s
  | .vmaxiW => Sys2Proof.Machine.execVmaxiW s
  | .vmaxiWu => Sys2Proof.Machine.execVmaxiWu s
  | .vmaxiD => Sys2Proof.Machine.execVmaxiD s
  | .vmaxiDu => Sys2Proof.Machine.execVmaxiDu s
  | .vmulB => Sys2Proof.Machine.execVmulB s
  | .vmulH => Sys2Proof.Machine.execVmulH s
  | .vmulW => Sys2Proof.Machine.execVmulW s
  | .vmulD => Sys2Proof.Machine.execVmulD s
  | .vmuhB => Sys2Proof.Machine.execVmuhB s
  | .vmuhBu => Sys2Proof.Machine.execVmuhBu s
  | .vmuhH => Sys2Proof.Machine.execVmuhH s
  | .vmuhHu => Sys2Proof.Machine.execVmuhHu s
  | .vmuhW => Sys2Proof.Machine.execVmuhW s
  | .vmuhWu => Sys2Proof.Machine.execVmuhWu s
  | .vmuhD => Sys2Proof.Machine.execVmuhD s
  | .vmuhDu => Sys2Proof.Machine.execVmuhDu s
  | .vmaddB => Sys2Proof.Machine.execVmaddB s
  | .vmaddH => Sys2Proof.Machine.execVmaddH s
  | .vmaddW => Sys2Proof.Machine.execVmaddW s
  | .vmaddD => Sys2Proof.Machine.execVmaddD s
  | .vmsubB => Sys2Proof.Machine.execVmsubB s
  | .vmsubH => Sys2Proof.Machine.execVmsubH s
  | .vmsubW => Sys2Proof.Machine.execVmsubW s
  | .vmsubD => Sys2Proof.Machine.execVmsubD s
  | .vmulwevHB => Sys2Proof.Machine.execVmulwevHB s
  | .vmulwevHuBu => Sys2Proof.Machine.execVmulwevHuBu s
  | .vmulwevHBuB => Sys2Proof.Machine.execVmulwevHBuB s
  | .vmulwevWH => Sys2Proof.Machine.execVmulwevWH s
  | .vmulwevWuHu => Sys2Proof.Machine.execVmulwevWuHu s
  | .vmulwevWHuH => Sys2Proof.Machine.execVmulwevWHuH s
  | .vmulwevDW => Sys2Proof.Machine.execVmulwevDW s
  | .vmulwevDuWu => Sys2Proof.Machine.execVmulwevDuWu s
  | .vmulwevDWuW => Sys2Proof.Machine.execVmulwevDWuW s
  | .vmulwevQD => Sys2Proof.Machine.execVmulwevQD s
  | .vmulwevQuDu => Sys2Proof.Machine.execVmulwevQuDu s
  | .vmulwevQDuD => Sys2Proof.Machine.execVmulwevQDuD s
  | .vmulwodHB => Sys2Proof.Machine.execVmulwodHB s
  | .vmulwodHuBu => Sys2Proof.Machine.execVmulwodHuBu s
  | .vmulwodHBuB => Sys2Proof.Machine.execVmulwodHBuB s
  | .vmulwodWH => Sys2Proof.Machine.execVmulwodWH s
  | .vmulwodWuHu => Sys2Proof.Machine.execVmulwodWuHu s
  | .vmulwodWHuH => Sys2Proof.Machine.execVmulwodWHuH s
  | .vmulwodDW => Sys2Proof.Machine.execVmulwodDW s
  | .vmulwodDuWu => Sys2Proof.Machine.execVmulwodDuWu s
  | .vmulwodDWuW => Sys2Proof.Machine.execVmulwodDWuW s
  | .vmulwodQD => Sys2Proof.Machine.execVmulwodQD s
  | .vmulwodQuDu => Sys2Proof.Machine.execVmulwodQuDu s
  | .vmulwodQDuD => Sys2Proof.Machine.execVmulwodQDuD s
  | .vmaddwevHB => Sys2Proof.Machine.execVmaddwevHB s
  | .vmaddwevHuBu => Sys2Proof.Machine.execVmaddwevHuBu s
  | .vmaddwevHBuB => Sys2Proof.Machine.execVmaddwevHBuB s
  | .vmaddwevWH => Sys2Proof.Machine.execVmaddwevWH s
  | .vmaddwevWuHu => Sys2Proof.Machine.execVmaddwevWuHu s
  | .vmaddwevWHuH => Sys2Proof.Machine.execVmaddwevWHuH s
  | .vmaddwevDW => Sys2Proof.Machine.execVmaddwevDW s
  | .vmaddwevDuWu => Sys2Proof.Machine.execVmaddwevDuWu s
  | .vmaddwevDWuW => Sys2Proof.Machine.execVmaddwevDWuW s
  | .vmaddwevQD => Sys2Proof.Machine.execVmaddwevQD s
  | .vmaddwevQuDu => Sys2Proof.Machine.execVmaddwevQuDu s
  | .vmaddwevQDuD => Sys2Proof.Machine.execVmaddwevQDuD s
  | .vmaddwodHB => Sys2Proof.Machine.execVmaddwodHB s
  | .vmaddwodHuBu => Sys2Proof.Machine.execVmaddwodHuBu s
  | .vmaddwodHBuB => Sys2Proof.Machine.execVmaddwodHBuB s
  | .vmaddwodWH => Sys2Proof.Machine.execVmaddwodWH s
  | .vmaddwodWuHu => Sys2Proof.Machine.execVmaddwodWuHu s
  | .vmaddwodWHuH => Sys2Proof.Machine.execVmaddwodWHuH s
  | .vmaddwodDW => Sys2Proof.Machine.execVmaddwodDW s
  | .vmaddwodDuWu => Sys2Proof.Machine.execVmaddwodDuWu s
  | .vmaddwodDWuW => Sys2Proof.Machine.execVmaddwodDWuW s
  | .vmaddwodQD => Sys2Proof.Machine.execVmaddwodQD s
  | .vmaddwodQuDu => Sys2Proof.Machine.execVmaddwodQuDu s
  | .vmaddwodQDuD => Sys2Proof.Machine.execVmaddwodQDuD s
  | .vmsubwevHB => Sys2Proof.Machine.execVmsubwevHB s
  | .vmsubwevHuBu => Sys2Proof.Machine.execVmsubwevHuBu s
  | .vmsubwevHBuB => Sys2Proof.Machine.execVmsubwevHBuB s
  | .vmsubwevWH => Sys2Proof.Machine.execVmsubwevWH s
  | .vmsubwevWuHu => Sys2Proof.Machine.execVmsubwevWuHu s
  | .vmsubwevWHuH => Sys2Proof.Machine.execVmsubwevWHuH s
  | .vmsubwevDW => Sys2Proof.Machine.execVmsubwevDW s
  | .vmsubwevDuWu => Sys2Proof.Machine.execVmsubwevDuWu s
  | .vmsubwevDWuW => Sys2Proof.Machine.execVmsubwevDWuW s
  | .vmsubwevQD => Sys2Proof.Machine.execVmsubwevQD s
  | .vmsubwevQuDu => Sys2Proof.Machine.execVmsubwevQuDu s
  | .vmsubwevQDuD => Sys2Proof.Machine.execVmsubwevQDuD s
  | .vmsubwodHB => Sys2Proof.Machine.execVmsubwodHB s
  | .vmsubwodHuBu => Sys2Proof.Machine.execVmsubwodHuBu s
  | .vmsubwodHBuB => Sys2Proof.Machine.execVmsubwodHBuB s
  | .vmsubwodWH => Sys2Proof.Machine.execVmsubwodWH s
  | .vmsubwodWuHu => Sys2Proof.Machine.execVmsubwodWuHu s
  | .vmsubwodWHuH => Sys2Proof.Machine.execVmsubwodWHuH s
  | .vmsubwodDW => Sys2Proof.Machine.execVmsubwodDW s
  | .vmsubwodDuWu => Sys2Proof.Machine.execVmsubwodDuWu s
  | .vmsubwodDWuW => Sys2Proof.Machine.execVmsubwodDWuW s
  | .vmsubwodQD => Sys2Proof.Machine.execVmsubwodQD s
  | .vmsubwodQuDu => Sys2Proof.Machine.execVmsubwodQuDu s
  | .vmsubwodQDuD => Sys2Proof.Machine.execVmsubwodQDuD s
  | .vhaddwHB => Sys2Proof.Machine.execVhaddwHB s
  | .vhaddwHuBu => Sys2Proof.Machine.execVhaddwHuBu s
  | .vhaddwHBuB => Sys2Proof.Machine.execVhaddwHBuB s
  | .vhaddwWH => Sys2Proof.Machine.execVhaddwWH s
  | .vhaddwWuHu => Sys2Proof.Machine.execVhaddwWuHu s
  | .vhaddwWHuH => Sys2Proof.Machine.execVhaddwWHuH s
  | .vhaddwDW => Sys2Proof.Machine.execVhaddwDW s
  | .vhaddwDuWu => Sys2Proof.Machine.execVhaddwDuWu s
  | .vhaddwDWuW => Sys2Proof.Machine.execVhaddwDWuW s
  | .vhaddwQD => Sys2Proof.Machine.execVhaddwQD s
  | .vhaddwQuDu => Sys2Proof.Machine.execVhaddwQuDu s
  | .vhaddwQDuD => Sys2Proof.Machine.execVhaddwQDuD s
  | .vhsubwHB => Sys2Proof.Machine.execVhsubwHB s
  | .vhsubwHuBu => Sys2Proof.Machine.execVhsubwHuBu s
  | .vhsubwHBuB => Sys2Proof.Machine.execVhsubwHBuB s
  | .vhsubwWH => Sys2Proof.Machine.execVhsubwWH s
  | .vhsubwWuHu => Sys2Proof.Machine.execVhsubwWuHu s
  | .vhsubwWHuH => Sys2Proof.Machine.execVhsubwWHuH s
  | .vhsubwDW => Sys2Proof.Machine.execVhsubwDW s
  | .vhsubwDuWu => Sys2Proof.Machine.execVhsubwDuWu s
  | .vhsubwDWuW => Sys2Proof.Machine.execVhsubwDWuW s
  | .vhsubwQD => Sys2Proof.Machine.execVhsubwQD s
  | .vhsubwQuDu => Sys2Proof.Machine.execVhsubwQuDu s
  | .vhsubwQDuD => Sys2Proof.Machine.execVhsubwQDuD s
  | .vaddwevHB => Sys2Proof.Machine.execVaddwevHB s
  | .vaddwevHuBu => Sys2Proof.Machine.execVaddwevHuBu s
  | .vaddwevHBuB => Sys2Proof.Machine.execVaddwevHBuB s
  | .vaddwevWH => Sys2Proof.Machine.execVaddwevWH s
  | .vaddwevWuHu => Sys2Proof.Machine.execVaddwevWuHu s
  | .vaddwevWHuH => Sys2Proof.Machine.execVaddwevWHuH s
  | .vaddwevDW => Sys2Proof.Machine.execVaddwevDW s
  | .vaddwevDuWu => Sys2Proof.Machine.execVaddwevDuWu s
  | .vaddwevDWuW => Sys2Proof.Machine.execVaddwevDWuW s
  | .vaddwevQD => Sys2Proof.Machine.execVaddwevQD s
  | .vaddwevQuDu => Sys2Proof.Machine.execVaddwevQuDu s
  | .vaddwevQDuD => Sys2Proof.Machine.execVaddwevQDuD s
  | .vaddwodHB => Sys2Proof.Machine.execVaddwodHB s
  | .vaddwodHuBu => Sys2Proof.Machine.execVaddwodHuBu s
  | .vaddwodHBuB => Sys2Proof.Machine.execVaddwodHBuB s
  | .vaddwodWH => Sys2Proof.Machine.execVaddwodWH s
  | .vaddwodWuHu => Sys2Proof.Machine.execVaddwodWuHu s
  | .vaddwodWHuH => Sys2Proof.Machine.execVaddwodWHuH s
  | .vaddwodDW => Sys2Proof.Machine.execVaddwodDW s
  | .vaddwodDuWu => Sys2Proof.Machine.execVaddwodDuWu s
  | .vaddwodDWuW => Sys2Proof.Machine.execVaddwodDWuW s
  | .vaddwodQD => Sys2Proof.Machine.execVaddwodQD s
  | .vaddwodQuDu => Sys2Proof.Machine.execVaddwodQuDu s
  | .vaddwodQDuD => Sys2Proof.Machine.execVaddwodQDuD s
  | .vsubwevHB => Sys2Proof.Machine.execVsubwevHB s
  | .vsubwevHuBu => Sys2Proof.Machine.execVsubwevHuBu s
  | .vsubwevHBuB => Sys2Proof.Machine.execVsubwevHBuB s
  | .vsubwevWH => Sys2Proof.Machine.execVsubwevWH s
  | .vsubwevWuHu => Sys2Proof.Machine.execVsubwevWuHu s
  | .vsubwevWHuH => Sys2Proof.Machine.execVsubwevWHuH s
  | .vsubwevDW => Sys2Proof.Machine.execVsubwevDW s
  | .vsubwevDuWu => Sys2Proof.Machine.execVsubwevDuWu s
  | .vsubwevDWuW => Sys2Proof.Machine.execVsubwevDWuW s
  | .vsubwevQD => Sys2Proof.Machine.execVsubwevQD s
  | .vsubwevQuDu => Sys2Proof.Machine.execVsubwevQuDu s
  | .vsubwevQDuD => Sys2Proof.Machine.execVsubwevQDuD s
  | .vsubwodHB => Sys2Proof.Machine.execVsubwodHB s
  | .vsubwodHuBu => Sys2Proof.Machine.execVsubwodHuBu s
  | .vsubwodHBuB => Sys2Proof.Machine.execVsubwodHBuB s
  | .vsubwodWH => Sys2Proof.Machine.execVsubwodWH s
  | .vsubwodWuHu => Sys2Proof.Machine.execVsubwodWuHu s
  | .vsubwodWHuH => Sys2Proof.Machine.execVsubwodWHuH s
  | .vsubwodDW => Sys2Proof.Machine.execVsubwodDW s
  | .vsubwodDuWu => Sys2Proof.Machine.execVsubwodDuWu s
  | .vsubwodDWuW => Sys2Proof.Machine.execVsubwodDWuW s
  | .vsubwodQD => Sys2Proof.Machine.execVsubwodQD s
  | .vsubwodQuDu => Sys2Proof.Machine.execVsubwodQuDu s
  | .vsubwodQDuD => Sys2Proof.Machine.execVsubwodQDuD s
  | .vnarrowBH => Sys2Proof.Machine.execVnarrowBH s
  | .vnarrowHW => Sys2Proof.Machine.execVnarrowHW s
  | .vnarrowWD => Sys2Proof.Machine.execVnarrowWD s
  | .vnarrowDQ => Sys2Proof.Machine.execVnarrowDQ s
  | .vnarrowsBH => Sys2Proof.Machine.execVnarrowsBH s
  | .vnarrowsHW => Sys2Proof.Machine.execVnarrowsHW s
  | .vnarrowsWD => Sys2Proof.Machine.execVnarrowsWD s
  | .vnarrowsDQ => Sys2Proof.Machine.execVnarrowsDQ s
  | .vnarrowuBuHu => Sys2Proof.Machine.execVnarrowuBuHu s
  | .vnarrowuHuWu => Sys2Proof.Machine.execVnarrowuHuWu s
  | .vnarrowuWuDu => Sys2Proof.Machine.execVnarrowuWuDu s
  | .vnarrowuDuQu => Sys2Proof.Machine.execVnarrowuDuQu s
  | .tlblookupR => Sys2Proof.Machine.execTlblookupR s
  | .tlblookupW => Sys2Proof.Machine.execTlblookupW s
  | .tlblookupX => Sys2Proof.Machine.execTlblookupX s
  | .tlbfill => Sys2Proof.Machine.execTlbfill s
  | .tlbprobe => Sys2Proof.Machine.execTlbprobe s
  | .tlbinvPage => Sys2Proof.Machine.execTlbinvPage s
  | .tlbinvAsid => Sys2Proof.Machine.execTlbinvAsid s
  | .tlbinvGlobal => Sys2Proof.Machine.execTlbinvGlobal s
  | .tlbinvAll => Sys2Proof.Machine.execTlbinvAll s
  | .csrrd => Sys2Proof.Machine.execCsrrd s
  | .csrwr => Sys2Proof.Machine.execCsrwr s

end Sys2Proof.Machine
end

