-- ==== Sys2Proof/Machine/Cycle.lean ====
section
/-! DEFINITION. One clock cycle of the unit (10_state.md R60, 70_reset_and_hazards.md R2300, R2305, R2306): reset, the
request channel and the response channel (log 18). -/

namespace Sys2Proof.Machine

/-- The response of the request in flight: the effect of its command, or ILLEGAL_OP with the command word, before any
operand is examined (30_encoding.md R159, 60_exceptions.md R2202). -/
def answer (s : State) : Result :=
  match decode s.req.cmd with
  | .ok i => exec i s
  | .error _ => .next (raise s .illegalOp (s.req.cmd.setWidth 64))

/-- A cycle whose inputs are `c`, already taken from `s.inputs`. -/
def cycleWith (s : State) (c : Cycle) : Result :=
  if c.rst then .next (applyReset s)
  else if s.busy = 0 then
    match c.req with
    | some r => .next (accept s r)
    | none => .next (idle s)
  else if s.busy = 1 then answer s
  else .next (wait s)

/-- The inputs of the next cycle; past the end of the list, no reset and no request (log 6). -/
def State.nextCycle (s : State) : Cycle := s.inputs.headD ⟨false, none⟩

/-- One clock cycle. A unit with parameters the spec does not allow is no unit (00_scope.md R11; log 14). -/
def clockCycle (s : State) : Result :=
  if s.cfg.legal then cycleWith { s with inputs := s.inputs.tail } s.nextCycle
  else .fault .illegalParams

end Sys2Proof.Machine
end

