-- ==== Sys2Proof/Machine/Step.lean ====
section
/-! DEFINITION. The step: one clock cycle (log 18), and the placing of a command word as the next one run (log 15). -/

namespace Sys2Proof.Machine

/-- One step of the machine: one clock cycle. -/
def step (s : State) : Host.Outcome State Fault Refusal := clockCycle s

/-- `s` with the request of the command word `w` in flight and its response due in the next step; the other inputs of
the request stay (log 15). A command word has 32 bits (30_encoding.md R162). -/
def State.withFetchWord (s : State) (nbits w : Nat) : State :=
  placeRequest s { s.req with cmd := BitVec.ofNat 32 (w % 2 ^ nbits) }

end Sys2Proof.Machine
end

