-- ==== Sys2Proof/Safety.lean ====
section
/-! DEFINITION. What holds of the state at every point between clock cycles: the legal values of the fields
(10_state.md R54, R61 to R63) and the uniqueness invariant of the TLB (20_memory.md R109). -/

namespace Sys2Proof.Machine

/-- The reserved bits of FCSR are zero (10_state.md R54). -/
def FcsrLegal (f : BitVec 32) : Prop := f &&& ~~~fcsrMask = 0

/-- The fields of a TLB entry fit their widths (10_state.md R62). -/
def TlbEntry.Fits (c : Params) (e : TlbEntry) : Prop :=
  e.vpn.toNat < 2 ^ (c.valen - c.ps) ∧ e.asid.toNat < 2 ^ c.asidBits ∧ e.ppn.toNat < 2 ^ (c.palen - c.ps)

/-- For every pair of ASID and virtual page number at most one entry matches (20_memory.md R109). -/
def TlbUnique (tlb : List TlbEntry) : Prop :=
  ∀ (i j : Nat) (e f : TlbEntry) (asid : BitVec 16) (vpn : BitVec 64),
    tlb[i]? = some e → tlb[j]? = some f → e.hits asid vpn = true → f.hits asid vpn = true → i = j

/-- The state is one the unit can be in. -/
structure State.Inv (s : State) : Prop where
  /-- the parameters are legal (00_scope.md R11) -/
  cfgLegal : s.cfg.legal = true
  /-- the reserved bits of FCSR are zero (10_state.md R54) -/
  fcsrLegal : FcsrLegal s.fcsr
  /-- ASID has ASIDBITS bits (10_state.md R61) -/
  asidFits : s.asid.toNat < 2 ^ s.cfg.asidBits
  /-- the TLB has NTLB entries (10_state.md R62) -/
  tlbLength : s.tlb.length = s.cfg.ntlb
  /-- the fields of every entry fit their widths (10_state.md R62) -/
  tlbFits : ∀ e ∈ s.tlb, e.Fits s.cfg
  /-- at most one entry matches a pair (20_memory.md R109) -/
  tlbUnique : TlbUnique s.tlb
  /-- RR is an index of the TLB (10_state.md R63) -/
  rrFits : s.rr < s.cfg.ntlb
  /-- a response is shown only while no request is in flight (10_state.md R60) -/
  respIdle : s.respValid = true → s.busy = 0

end Sys2Proof.Machine
end

