-- ==== Sys2Proof/Certificates/Slice0/Obligations.lean ====
section
/-! DEFINITION. The statements for the provers, and before them the words they use: a result said as numbers of lanes, the
real a floating-point pattern stands for, the match rule, what a response leaves. The reading functions here are written
from the spec again, on plain numbers, so that a statement compares the model with something other than itself. -/

namespace Sys2Proof.Spec

open Sys2Proof.Machine

/-- FCSR, ASID, the TLB and RR are the same. -/
structure SameUnit (s t : State) : Prop where
  fcsr : t.fcsr = s.fcsr
  asid : t.asid = s.asid
  tlb : t.tlb = s.tlb
  rr : t.rr = s.rr

/-- The request in flight in `s` has got the response `r` in `t` (10_state.md R60): the response outputs are `r`, no request is
in flight, and of the rest, FCSR, ASID, the TLB and RR apart, nothing else has changed. -/
structure Answered (s t : State) (r : Response) : Prop where
  valid : t.respValid = true
  outputs : t.resp = r
  record : t.responses = r :: s.responses
  free : t.busy = 0
  cfg : t.cfg = s.cfg
  req : t.req = s.req
  inputs : t.inputs = s.inputs
  lats : t.lats = s.lats

/-- An OK response with the outputs `VR` and `XR` (10_state.md R59). -/
def ok (vr : Vec) (xr : Word) : Response := ⟨.OK, vr, xr, 0, 0, 0⟩

/-- A fault response of code `c` and value `v` (60_exceptions.md R2201). -/
def fault (c : BitVec 8) (v pc : Word) : Response := ⟨.FAULT, 0, 0, c, v, pc⟩

/-- The command completes with `XR = x` and changes nothing else. -/
def Returns (i : Instr) (s : State) (x : Word) : Prop :=
  ∃ t, exec i s = .next t ∧ Answered s t (ok 0 x) ∧ SameUnit s t

/-- The command raises the fault of code `c` with value `v` and changes nothing else. -/
def Raises (i : Instr) (s : State) (c : BitVec 8) (v : Word) : Prop :=
  ∃ t, exec i s = .next t ∧ Answered s t (fault c v s.req.pc) ∧ SameUnit s t

/-- Lane `k` of width `W`, read as unsigned (00_scope.md R14, R16). -/
def laneU (W : Nat) (V : Vec) (k : Nat) : Int := ((V.toNat / 2 ^ (k * W) % 2 ^ W : Nat) : Int)

/-- Lane `k` of width `W`, read as two's complement (00_scope.md R14, R16). -/
def laneS (W : Nat) (V : Vec) (k : Nat) : Int :=
  if laneU W V k < 2 ^ (W - 1) then laneU W V k else laneU W V k - 2 ^ W

/-- Lane `k` of width `W`, read as signed or unsigned (00_scope.md R15). -/
def laneOf (σ : Sign) (W : Nat) (V : Vec) (k : Nat) : Int :=
  match σ with
  | .S => laneS W V k
  | .U => laneU W V k

/-- The SIMD command completes: lane `k` of `VR`, of width `W`, is `f k` modulo `2^W` for every `k` below `VLEN / W`, `VR` has no bit
at or above VLEN, `XR` is zero, and nothing else changes (42_simd_lanewise.md R1400). -/
def Gives (i : Instr) (s : State) (W : Nat) (f : Nat → Int) : Prop :=
  ∃ t, exec i s = .next t ∧ Answered s t (ok t.resp.vr 0) ∧ SameUnit s t ∧ t.resp.vr.toNat < 2 ^ s.cfg.vlen ∧
    ∀ k < s.cfg.vlen / W, laneU W t.resp.vr k = f k % 2 ^ W

/-- The SIMD command completes as in `Gives`, and lane `k` of `VR`, read with the sign `σ`, is exactly `f k`. -/
def GivesExactly (i : Instr) (s : State) (W : Nat) (σ : Sign) (f : Nat → Int) : Prop :=
  ∃ t, exec i s = .next t ∧ Answered s t (ok t.resp.vr 0) ∧ SameUnit s t ∧ t.resp.vr.toNat < 2 ^ s.cfg.vlen ∧
    ∀ k < s.cfg.vlen / W, laneOf σ W t.resp.vr k = f k

/-- `n` clamped to the signed or unsigned range of `W` bits (00_scope.md R15). -/
def clamp (σ : Sign) (W : Nat) (n : Int) : Int :=
  match σ with
  | .S => min (max n (-2 ^ (W - 1))) (2 ^ (W - 1) - 1)
  | .U => min (max n 0) (2 ^ W - 1)

/-- `FCSR.ENABLES` (10_state.md R54). -/
def enables (s : State) : ExcSet := s.fcsr.extractLsb' 0 5

/-- `FCSR.RM` (10_state.md R54, R55). -/
def rm (s : State) : RMode :=
  match s.fcsr.toNat / 256 % 4 with
  | 0 => .RNE
  | 1 => .RZ
  | 2 => .RP
  | _ => .RM

/-- From `s` to `t` CAUSE has become `cause`, FLAGS has become `flags`, and every other bit of FCSR is the same; so are ASID, the TLB and
RR. -/
structure FcsrBecomes (s t : State) (cause flags : ExcSet) : Prop where
  cause : t.fcsr.extractLsb' 24 5 = cause
  flags : t.fcsr.extractLsb' 16 5 = flags
  low : t.fcsr.extractLsb' 0 16 = s.fcsr.extractLsb' 0 16
  mid : t.fcsr.extractLsb' 21 3 = s.fcsr.extractLsb' 21 3
  high : t.fcsr.extractLsb' 29 3 = s.fcsr.extractLsb' 29 3
  asid : t.asid = s.asid
  tlb : t.tlb = s.tlb
  rr : t.rr = s.rr

/-- The FPU command has the result `r.1` and the exception set `r.2`, and ends as FPCOMMIT says (40_fp_arith.md R1010): with
no enabled exception it completes, with one it raises FPE. -/
def Commits (i : Instr) (s : State) (r : Word × ExcSet) : Prop :=
  (r.2 &&& enables s = 0 → ∃ t, exec i s = .next t ∧ Answered s t (ok 0 r.1) ∧
    FcsrBecomes s t r.2 (s.fcsr.extractLsb' 16 5 ||| r.2)) ∧
  (r.2 &&& enables s ≠ 0 → ∃ t, exec i s = .next t ∧ Answered s t (fault 7 (r.2.setWidth 64) s.req.pc) ∧
    FcsrBecomes s t r.2 (s.fcsr.extractLsb' 16 5))

/-- A binary32 operand is bits `[31:0]` of its port, a binary64 operand the whole port (10_state.md R52). -/
def operand (F : Fmt) (x : Word) : Word :=
  match F with
  | .S => BitVec.ofNat 64 (x.toNat % 2 ^ 32)
  | .D => x

/-- The pattern is a binary32 pattern in the low half, or any binary64 pattern. -/
def IsPattern (F : Fmt) (a : Word) : Prop :=
  match F with
  | .S => a.toNat < 2 ^ 32
  | .D => True

/-- The sign bit of a pattern (40_fp_arith.md R1000). -/
def signOf (F : Fmt) (a : Word) : Nat :=
  match F with
  | .S => a.toNat / 2 ^ 31 % 2
  | .D => a.toNat / 2 ^ 63 % 2

/-- The exponent field of a pattern (40_fp_arith.md R1000). -/
def expOf (F : Fmt) (a : Word) : Nat :=
  match F with
  | .S => a.toNat / 2 ^ 23 % 2 ^ 8
  | .D => a.toNat / 2 ^ 52 % 2 ^ 11

/-- The fraction field of a pattern (40_fp_arith.md R1000). -/
def fracOf (F : Fmt) (a : Word) : Nat :=
  match F with
  | .S => a.toNat % 2 ^ 23
  | .D => a.toNat % 2 ^ 52

/-- The all-ones exponent field (40_fp_arith.md R1000). -/
def topExp (F : Fmt) : Nat :=
  match F with
  | .S => 255
  | .D => 2047

/-- The most significant fraction bit (40_fp_arith.md R1002). -/
def quietOf (F : Fmt) (a : Word) : Nat :=
  match F with
  | .S => a.toNat / 2 ^ 22 % 2
  | .D => a.toNat / 2 ^ 51 % 2

/-- A zero, a subnormal or a normal number (40_fp_arith.md R1001). -/
def IsFinite (F : Fmt) (a : Word) : Prop := IsPattern F a ∧ expOf F a ≠ topExp F

/-- A NaN (40_fp_arith.md R1001). -/
def IsNan (F : Fmt) (a : Word) : Prop := expOf F a = topExp F ∧ fracOf F a ≠ 0

/-- A signalling NaN (40_fp_arith.md R1002). -/
def IsSignalling (F : Fmt) (a : Word) : Prop := IsNan F a ∧ quietOf F a = 0

/-- An infinity (40_fp_arith.md R1001). -/
def IsInfinite (F : Fmt) (a : Word) : Prop := expOf F a = topExp F ∧ fracOf F a = 0

/-- The place of the last significand bit of a pattern (40_fp_arith.md R1001): `emin - p + 1`, or `E - bias - p + 1`. -/
def ulpExp (F : Fmt) (a : Word) : Int :=
  match F with
  | .S => if expOf F a = 0 then -149 else (expOf F a : Int) - 150
  | .D => if expOf F a = 0 then -1074 else (expOf F a : Int) - 1075

/-- The significand of a pattern as an integer (40_fp_arith.md R1001): `T`, or `2^(p-1) + T`. -/
def significand (F : Fmt) (a : Word) : Nat :=
  match F with
  | .S => if expOf F a = 0 then fracOf F a else 2 ^ 23 + fracOf F a
  | .D => if expOf F a = 0 then fracOf F a else 2 ^ 52 + fracOf F a

/-- `val(a)` of a finite pattern as a rational (40_fp_arith.md R1001). -/
def real (F : Fmt) (a : Word) : ℚ :=
  (-1 : ℚ) ^ signOf F a * (significand F a : ℚ) * (2 : ℚ) ^ ulpExp F a

/-- `p` of a format (40_fp_arith.md R1000). -/
def precOf (F : Fmt) : Int :=
  match F with
  | .S => 24
  | .D => 53

/-- `emin` of a format (40_fp_arith.md R1000). -/
def eminOf (F : Fmt) : Int :=
  match F with
  | .S => -126
  | .D => -1022

/-- `emax` of a format (40_fp_arith.md R1000). -/
def emaxOf (F : Fmt) : Int :=
  match F with
  | .S => 127
  | .D => 1023

/-- The greatest finite value, `(2^p - 1) * 2^(emax - p + 1)` (40_fp_arith.md R1003). -/
def greatest (F : Fmt) : ℚ := ((2 : ℚ) ^ precOf F - 1) * (2 : ℚ) ^ (emaxOf F - precOf F + 1)

/-- Half a unit in the last place above the greatest finite value: the tie between it and `2^(emax + 1)`. -/
def greatestTie (F : Fmt) : ℚ := ((2 : ℚ) ^ precOf F - 1 / 2) * (2 : ℚ) ^ (emaxOf F - precOf F + 1)

/-- The reals whose rounding overflows, mode by mode (40_fp_arith.md R1005, R1006): the rounded magnitude, with an unbounded
exponent range, is `2^(emax + 1)` or more. -/
def Overflows (F : Fmt) (m : RMode) (x : ℚ) : Prop :=
  match m with
  | .RNE => greatestTie F ≤ |x|
  | .RZ => (2 : ℚ) ^ (emaxOf F + 1) ≤ |x|
  | .RP => greatest F < x ∨ x ≤ -(2 : ℚ) ^ (emaxOf F + 1)
  | .RM => x < -greatest F ∨ (2 : ℚ) ^ (emaxOf F + 1) ≤ x

/-- The integer `n` is the rational `v` rounded in the mode: `rint` of 40_fp_arith.md R1005 on signed values. -/
def RoundsTo (m : RMode) (v : ℚ) (n : Int) : Prop :=
  match m with
  | .RNE => |v - n| < 1 / 2 ∨ |v - n| = 1 / 2 ∧ n % 2 = 0
  | .RZ => |(n : ℚ)| ≤ |v| ∧ |v| < |(n : ℚ)| + 1 ∧ 0 ≤ (n : ℚ) * v
  | .RP => (n : ℚ) - 1 < v ∧ v ≤ n
  | .RM => (n : ℚ) ≤ v ∧ v < n + 1

/-- The sign bit of a real (40_fp_arith.md R1005). -/
def signBit (x : ℚ) : Nat := if x < 0 then 1 else 0

/-- A zero of either sign (40_fp_arith.md R1001). -/
def IsZero (F : Fmt) (a : Word) : Prop := expOf F a = 0 ∧ fracOf F a = 0

/-- A pattern that is no NaN: a finite value or an infinity (40_fp_arith.md R1001). -/
def IsNumber (F : Fmt) (a : Word) : Prop := IsPattern F a ∧ ¬IsNan F a

/-- The sign bit of the format as a mask (40_fp_arith.md R1000). -/
def signMask (F : Fmt) : Word :=
  match F with
  | .S => 0x80000000
  | .D => 0x8000000000000000

/-- The zero of sign `s` (40_fp_arith.md R1003). -/
def zeroOf (F : Fmt) (s : Nat) : Word := if s = 1 then signMask F else 0

/-- The infinity of sign `s` (40_fp_arith.md R1003). -/
def infOf (F : Fmt) (s : Nat) : Word :=
  (match F with
    | .S => 0x7F800000
    | .D => 0x7FF0000000000000) ||| zeroOf F s

/-- `xval(a) < xval(b)` of two numbers (40_fp_arith.md R1003). -/
def XLt (F : Fmt) (a b : Word) : Prop :=
  ¬(IsInfinite F a ∧ signOf F a = 0) ∧ ¬(IsInfinite F b ∧ signOf F b = 1) ∧
    (IsInfinite F a ∨ IsInfinite F b ∨ real F a < real F b)

/-- `|a| < |b|` of two numbers (40_fp_arith.md R1003). -/
def XLtMag (F : Fmt) (a b : Word) : Prop :=
  ¬IsInfinite F a ∧ (IsInfinite F b ∨ |real F a| < |real F b|)

/-- The pattern of the default NaN (40_fp_arith.md R1008). -/
def nan (F : Fmt) : Word :=
  match F with
  | .S => 0x7FC00000
  | .D => 0x7FF8000000000000

/-- The relations of the comparisons on rationals (41_fp_compare_convert.md R1201). -/
def relOn (r : Rel) (x y : ℚ) : Prop :=
  match r with
  | .EQ => x = y
  | .NE => x ≠ y
  | .LT => x < y
  | .LE => x ≤ y
  | .GT => x > y
  | .GE => x ≥ y

/-- `vpn(va) = va[VALEN-1:PS]` (20_memory.md R104). -/
def vpn (s : State) (va : Word) : Nat := va.toNat % 2 ^ s.cfg.valen / 2 ^ s.cfg.ps

/-- The entry matches the ASID and the virtual page number (20_memory.md R107). -/
def Matches (e : TlbEntry) (asid vpn : Nat) : Prop :=
  e.v = true ∧ e.vpn.toNat = vpn ∧ (e.g = true ∨ e.asid.toNat = asid)

/-- The entry permits the access (20_memory.md R110). -/
def Permits (e : TlbEntry) (acc : Access) (p : Priv) : Prop :=
  (match acc with
    | .R => e.r = true
    | .W => e.w = true
    | .X => e.x = true) ∧ (p = .U → e.u = true)

/-- The lookup of an access kind. -/
def lookupOf (acc : Access) : Instr :=
  match acc with
  | .R => .tlblookupR
  | .W => .tlblookupW
  | .X => .tlblookupX

/-- The ASID operand `XB` is below `2^ASIDBITS` (47_tlb.md R2011). -/
def AsidOk (s : State) : Prop := s.req.xb.toNat < 2 ^ s.cfg.asidBits

/-- The reserved bits of the fill descriptor `XC` are zero (47_tlb.md R2010). -/
def DescOk (s : State) : Prop :=
  (∀ k, 5 ≤ k → k < s.cfg.ps → s.req.xc.getLsbD k = false) ∧ ∀ k, s.cfg.palen ≤ k → s.req.xc.getLsbD k = false

/-- The entry a fill writes (47_tlb.md R2004). -/
def IsFilled (s : State) (n : TlbEntry) : Prop :=
  n.v = true ∧ n.vpn.toNat = vpn s s.req.xa ∧ n.asid.toNat = s.req.xb.toNat ∧
    n.ppn.toNat = s.req.xc.toNat / 2 ^ s.cfg.ps ∧
    n.r = s.req.xc.getLsbD 0 ∧ n.w = s.req.xc.getLsbD 1 ∧ n.x = s.req.xc.getLsbD 2 ∧ n.u = s.req.xc.getLsbD 3 ∧
    n.g = s.req.xc.getLsbD 4

/-- The entry is in the conflict set of the new entry `n` (20_memory.md R108). -/
def Conflicts (e n : TlbEntry) : Prop :=
  e.v = true ∧ e.vpn = n.vpn ∧ (e.g = true ∨ n.g = true ∨ e.asid = n.asid)

/-- The TLB of `t` is that of `s` with `V` cleared in exactly the entries that satisfy `P`. -/
def Invalidated (s t : State) (P : TlbEntry → Prop) : Prop :=
  t.tlb.length = s.tlb.length ∧
    ∀ (k : Nat) (e : TlbEntry), s.tlb[k]? = some e →
      (P e → t.tlb[k]? = some { e with v := false }) ∧ (¬P e → t.tlb[k]? = some e)

/-- The command completes as an invalidation of the entries that satisfy `P` (47_tlb.md R2006 to R2009). -/
def Invalidates (i : Instr) (s : State) (P : TlbEntry → Prop) : Prop :=
  ∃ t, exec i s = .next t ∧ Answered s t (ok 0 0) ∧ Invalidated s t P ∧ t.fcsr = s.fcsr ∧ t.asid = s.asid ∧
    t.rr = s.rr

/-- The commands of a unit. -/
def Fpu (i : Instr) : Prop := i.fields.unit = 1
/-- The commands of a unit. -/
def Simd (i : Instr) : Prop := i.fields.unit = 2
/-- The commands of a unit. -/
def Tlb (i : Instr) : Prop := i.fields.unit = 3
/-- The commands of a unit. -/
def Csr (i : Instr) : Prop := i.fields.unit = 4

/-- The commands that need `PRIV = K` whatever their operands (60_exceptions.md R2212). -/
def kernelOnly : List Instr := [.tlbfill, .tlbprobe, .tlbinvPage, .tlbinvAsid, .tlbinvGlobal, .tlbinvAll]

/-- The commands of a unit with one of the operations. -/
def hasOp (i : Instr) (unit : BitVec 4) (ops : List (BitVec 8)) : Prop := i.fields.unit = unit ∧ i.fields.op ∈ ops

/-- The forms that read `XA` (30_encoding.md R160). -/
def ReadsXa (i : Instr) : Prop :=
  Fpu i ∨ i ∈ ([.tlblookupR, .tlblookupW, .tlblookupX, .tlbfill, .tlbprobe, .tlbinvPage, .csrwr] : List Instr)

/-- The forms that read `XB` (30_encoding.md R160): not the FPU commands of form FR1. -/
def ReadsXb (i : Instr) : Prop :=
  Fpu i ∧ i.fields.op ∉ ([0x10, 0x30, 0x31, 0x32] : List (BitVec 8)) ∨
    i ∈ ([.tlblookupR, .tlblookupW, .tlblookupX, .tlbfill, .tlbinvPage, .tlbinvAsid] : List Instr)

/-- The forms that read `XC` (30_encoding.md R160): FR3 and TLBF. -/
def ReadsXc (i : Instr) : Prop := i ∈ ([.fmaddS, .fmaddD, .tlbfill] : List Instr)

/-- The forms that read `VB` (30_encoding.md R160): VV2 and VV3. -/
def ReadsVb (i : Instr) : Prop := Simd i ∧ i.fields.op ∉ ([0x0B, 0x0C] : List (BitVec 8))

/-- The forms that read `VC` (30_encoding.md R160): VV3. -/
def ReadsVc (i : Instr) : Prop := hasOp i 2 [0x08, 0x12, 0x13, 0x28, 0x29, 0x2A, 0x2B]

/-- The forms that read `IMM` (30_encoding.md R160, R161): VI, CSRR and CSRW. -/
def ReadsImm (i : Instr) : Prop := hasOp i 2 [0x0B, 0x0C] ∨ Csr i

/-- What an invalidation removes (47_tlb.md R2006 to R2009). -/
def Removes (i : Instr) (s : State) (e : TlbEntry) : Prop :=
  i = .tlbinvPage ∧ Matches e s.req.xb.toNat (vpn s s.req.xa) ∨
    i = .tlbinvAsid ∧ e.v = true ∧ e.g = false ∧ e.asid.toNat = s.req.xb.toNat ∨
    i = .tlbinvGlobal ∧ e.v = true ∧ e.g = true ∨ i = .tlbinvAll

/-- The `LAT` of the next request accepted (00_scope.md R11). -/
def lat (s : State) : Nat := s.lats.headD 0 + 1

/-- The inputs of the cycle `k` cycles from now. -/
def inputAt (s : State) (k : Nat) : Cycle := (s.inputs[k]?).getD ⟨false, none⟩

end Sys2Proof.Spec

open Sys2Proof Sys2Proof.Machine Sys2Proof.Spec

/-- O1, tier 3 (30_encoding.md R150 to R158, R166). For every 32-bit word w and every command i, the decoder reads i
from w if and only if w is encode i. So no bit of a word is dropped, no word is read as two commands, every
command is read back from its own word, and every other word is refused. -/
def Obligations.DecodeIsInverseOfEncode : Prop :=
  ∀ (w : Cmd) (i : Instr), decode w = .ok i ↔ w = encode i

/-- O2, tier 2 (30_encoding.md R151 to R158). For every 32-bit word, the decoder reads a command from it if and only
if its reserved bits are zero, its UNIT and OP are listed, and its WID, SGN and RND are values that the operation
accepts, as WellFormed.lean says field by field. -/
def Obligations.DecodeAcceptsExactlyLegalFields : Prop :=
  ∀ w : Cmd, (∃ i, decode w = .ok i) ↔ (Fields.ofCmd w).wellFormed = true

/-- O3, tier 1 (30_encoding.md R166). Twelve command words of the listing of R166, of every unit, decode to the
commands the listing gives them. -/
def Obligations.SampleWordsDecode : Prop :=
  decode 0x10100000 = .ok .faddS ∧
    decode 0x10510000 = .ok .fmaddD ∧
    decode 0x12D10000 = .ok .fcmpSgeD ∧
    decode 0x13105800 = .ok .ftintrpLS ∧
    decode 0x13214000 = .ok .ffintDL ∧
    decode 0x20140000 = .ok .vaddQ ∧
    decode 0x21104000 = .ok .vmuhBu ∧
    decode 0x22938000 = .ok .vmaddwodQDuD ∧
    decode 0x23240000 = .ok .vnarrowuDuQu ∧
    decode 0x30800000 = .ok .tlbfill ∧
    decode 0x31300000 = .ok .tlbinvAll ∧
    decode 0x40200000 = .ok .csrwr

/-- O4, tier 1 (10_state.md R65; 70_reset_and_hazards.md R2301; 00_scope.md R11; log 1). For every parameter choice,
the reset state has FCSR 0, ASID 0, NTLB entries with V = 0, RR 0, no request in flight (so req_ready is 1 without
rst), resp_valid 0 and every response output 0; That State.reset has the default parameters of R11 is the model's
choice (log 1). -/
def Obligations.ResetStateValues : Prop :=
  (∀ c : Params, (State.resetWith c).cfg = c ∧ (State.resetWith c).fcsr = 0 ∧ (State.resetWith c).asid = 0 ∧
      (State.resetWith c).tlb.length = c.ntlb ∧ (∀ e ∈ (State.resetWith c).tlb, e.v = false) ∧
      (State.resetWith c).rr = 0 ∧ (State.resetWith c).busy = 0 ∧ (State.resetWith c).reqReady false = true ∧
      (State.resetWith c).respValid = false ∧ (State.resetWith c).resp = ⟨.OK, 0, 0, 0, 0, 0⟩) ∧
    State.reset = State.resetWith ⟨128, 64, 12, 48, 48, 10, .after⟩

/-- O5, tier 1 (20_memory.md R109; 70_reset_and_hazards.md R2301). The invariant of Safety.lean holds of the reset
state of every legal choice of parameters, and of State.reset. -/
def Obligations.ResetMeetsInvariant : Prop :=
  (∀ c : Params, c.legal = true → (State.resetWith c).Inv) ∧ State.reset.Inv

/-- O6, tier 3 (20_memory.md R107 to R109; 10_state.md R54, R61 to R63; 47_tlb.md R2013). From every state that meets
the invariant, a step that answers a next state answers one that meets it: the parameters stay legal, the reserved
bits of FCSR stay zero, ASID has ASIDBITS bits, the TLB has NTLB entries whose fields fit their widths, at most
one entry matches any pair, RR is an index of the TLB, and a response is shown only while no request is in flight. -/
def Obligations.StepKeepsInvariant : Prop :=
  ∀ s t : State, s.Inv → step s = .next t → t.Inv

/-- O7, tier 2 (70_reset_and_hazards.md R2307; 60_exceptions.md R2206; 00_scope.md R11). From every state with legal
parameters a step answers a next state: no command, no fault and no command word stops the unit. With parameters
outside the table of R11 a step stops with illegalParams; that stop is the model's own (log 14). -/
def Obligations.StepNeverStops : Prop :=
  (∀ s : State, s.cfg.legal = true → ∃ t, step s = .next t) ∧
    ∀ s : State, s.cfg.legal = false → step s = .fault .illegalParams

/-- O8, tier 1 (10_state.md R60; 30_encoding.md R159; log 15; log 18). In a unit with legal parameters, when the
response of the request in flight is due in this cycle, rst is 0 and the command word decodes to i, step is exec
of i on the state with this cycle's inputs taken, a step being one clock cycle (log 18). And the word placed by
withFetchWord is run by the very next step: withFetchWord is the model's own way to place a request (log 15), no
rule of the spec. -/
def Obligations.StepRunsDecodedCommand : Prop :=
  (∀ (s : State) (i : Instr), s.cfg.legal = true → s.busy = 1 → (inputAt s 0).rst = false → decode s.req.cmd = .ok i →
      step s = exec i { s with inputs := s.inputs.tail }) ∧
    ∀ (s : State) (i : Instr) (n w : Nat), s.cfg.legal = true → decode (BitVec.ofNat 32 (w % 2 ^ n)) = .ok i →
      step (s.withFetchWord n w) =
        exec i { s with
          req := { s.req with cmd := BitVec.ofNat 32 (w % 2 ^ n) }
          busy := 1
          inputs := s.inputs.tail }

/-- O9, tier 1 (R159). When the response of the request in flight is due, rst is 0 and the command word is the word of
no command, the response is the fault of code 0x01 with value zext_64(CMD) and the request's PC, whatever the
operands, and FCSR, ASID, the TLB and RR do not change. -/
def Obligations.IllegalWordFaults : Prop :=
  ∀ s : State, s.cfg.legal = true → s.busy = 1 → (inputAt s 0).rst = false → (∀ i, s.req.cmd ≠ encode i) →
    ∃ t, step s = .next t ∧ Answered { s with inputs := s.inputs.tail } t (fault 1 (s.req.cmd.setWidth 64) s.req.pc) ∧
      SameUnit s t

/-- O10, tier 1 (10_state.md R58, R60; 70_reset_and_hazards.md R2305; log 4; log 5). In a cycle without rst and with
no request in flight, an offered request is accepted: every input is sampled, the response is due LAT cycles
later, LAT being the next entry of the model's latency list plus one (log 5), resp_valid is 0, and FCSR, ASID, the
TLB and RR stay. The field resp stays too: it is the model's record of the last response, and the spec does not
say what the outputs show while resp_valid is 0 (log 4). With no request offered only resp_valid changes. -/
def Obligations.AcceptSamplesEveryInput : Prop :=
  ∀ s : State, s.cfg.legal = true → s.busy = 0 → (inputAt s 0).rst = false →
    ∃ t, step s = .next t ∧ SameUnit s t ∧ t.cfg = s.cfg ∧ t.resp = s.resp ∧ t.respValid = false ∧
      t.responses = s.responses ∧ t.inputs = s.inputs.tail ∧
      (∀ r, (inputAt s 0).req = some r → t.req = r ∧ t.busy = lat s ∧ t.lats = s.lats.tail) ∧
      ((inputAt s 0).req = none → t.req = s.req ∧ t.busy = 0 ∧ t.lats = s.lats)

/-- O11, tier 2 (10_state.md R60; 70_reset_and_hazards.md R2306, R2307). From a legal state with no request in flight
whose next cycle offers a request, and with rst 0 in that cycle and the LAT cycles after it: after the cycle of
acceptance and LAT more the response is there and is the one response added, and in every cycle between no
response is shown and FCSR, ASID, the TLB and RR are those of the start. So every state change takes effect in the
response's cycle and not before. -/
def Obligations.OneResponseAfterLatCycles : Prop :=
  ∀ (s : State) (r : Request), s.cfg.legal = true → s.busy = 0 → (inputAt s 0).req = some r →
    (∀ k ≤ lat s, (inputAt s k).rst = false) →
    (∃ t, Host.Core.run Sys2Proof.core (lat s + 1) s = .next t ∧ t.respValid = true ∧ t.busy = 0 ∧ t.req = r ∧
      t.responses = t.resp :: s.responses) ∧
    ∀ k, 1 ≤ k → k ≤ lat s → ∃ u, Host.Core.run Sys2Proof.core k s = .next u ∧ u.respValid = false ∧ u.busy = lat s + 1 - k ∧
      u.responses = s.responses ∧ SameUnit s u

/-- O12, tier 2 (70_reset_and_hazards.md R2305). While a request is in flight, a step does not depend on what is
offered in the cycle: two states that differ only in the request offered in this cycle answer the same, and the
request in flight stays in the latch unless rst is 1. A sender that holds its request offers it in a later cycle,
which this step leaves as it is. -/
def Obligations.BusyUnitIgnoresOffers : Prop :=
  (∀ (s : State) (c : Cycle) (cs : List Cycle) (q : Option Request), s.busy ≠ 0 → s.inputs = c :: cs →
      step s = step { s with inputs := { c with req := q } :: cs }) ∧
    ∀ s t : State, s.busy ≠ 0 → (inputAt s 0).rst = false → step s = .next t → t.req = s.req ∧ t.inputs = s.inputs.tail

/-- O13, tier 1 (70_reset_and_hazards.md R2300). In a cycle with rst = 1 req_ready is 0, no response is produced, an
offered request is not accepted, a request in flight is abandoned with none of its state changes, and the state
left is the reset state with the unit's parameters. What the outside is still to do, and the model's record of the
responses, stay (log 7). -/
def Obligations.ResetAbandonsRequest : Prop :=
  ∀ s : State, s.cfg.legal = true → (inputAt s 0).rst = true → s.reqReady (inputAt s 0).rst = false ∧
    ∃ t, step s = .next t ∧
      t = { State.resetWith s.cfg with inputs := s.inputs.tail, lats := s.lats, responses := s.responses } ∧
      t.reqReady false = true

/-- O14, tier 1 (R64). With no request in flight DBG_FCSR, DBG_ASID and DBG_RR return those registers; DBG_TLB(i)
returns for a valid entry w0 = (VPN << PS) | V, w1 = (PPN << PS) | G << 4 | U << 3 | X << 2 | W << 1 | R and w2 =
ASID, and three zero words for an invalid entry and for an index at or above NTLB. -/
def Obligations.DebugPortReads : Prop :=
  ∀ s : State, s.Inv → s.busy = 0 →
      s.debugRead .fcsr = some [BitVec.ofNat 64 s.fcsr.toNat] ∧
      s.debugRead .asid = some [BitVec.ofNat 64 s.asid.toNat] ∧
      s.debugRead .rr = some [BitVec.ofNat 64 s.rr] ∧
      (∀ (i : Nat) (e : TlbEntry), s.tlb[i]? = some e → e.v = true →
        ∃ w0 w1 w2 : Word, s.debugRead (.tlb i) = some [w0, w1, w2] ∧
          w0.toNat = e.vpn.toNat * 2 ^ s.cfg.ps + 1 ∧
          w1.toNat = e.ppn.toNat * 2 ^ s.cfg.ps + (if e.g then 16 else 0) + (if e.u then 8 else 0) +
            (if e.x then 4 else 0) + (if e.w then 2 else 0) + (if e.r then 1 else 0) ∧
          w2.toNat = e.asid.toNat) ∧
      (∀ (i : Nat) (e : TlbEntry), s.tlb[i]? = some e → e.v = false → s.debugRead (.tlb i) = some [0, 0, 0]) ∧
      ∀ i, s.cfg.ntlb ≤ i → s.debugRead (.tlb i) = some [0, 0, 0]

/-- O15, tier 2 (10_state.md R59, R60; 60_exceptions.md R2200, R2201). Every command in every state answers a next
state whose response is recorded once, with no request in flight, the parameters, the request, the inputs and the
latencies unchanged; its response either is OK with FCODE, FVALUE and FPC zero, or is a fault with VR and XR zero,
FPC the request's PC and FCODE one of 2 to 7. -/
def Obligations.EveryCommandAnswersOnce : Prop :=
  ∀ (i : Instr) (s : State), ∃ t, exec i s = .next t ∧ Answered s t t.resp ∧
    (t.resp.status = .OK → t.resp.fcode = 0 ∧ t.resp.fvalue = 0 ∧ t.resp.fpc = 0) ∧
    (t.resp.status = .FAULT → t.resp.vr = 0 ∧ t.resp.xr = 0 ∧ t.resp.fpc = s.req.pc ∧
      2 ≤ t.resp.fcode.toNat ∧ t.resp.fcode.toNat ≤ 7)

/-- O16, tier 2 (R2203). Whenever a command answers with a fault, VR and XR are zero, ASID, the TLB and RR are
unchanged, and FCSR is unchanged unless the fault is FPE (code 7); an FPE fault writes the exception set, which is
the fault value, to CAUSE and changes no other bit of FCSR, FLAGS included. -/
def Obligations.FaultHasNoPartialEffect : Prop :=
  ∀ (i : Instr) (s t : State), exec i s = .next t → t.resp.status = .FAULT →
    t.resp.vr = 0 ∧ t.resp.xr = 0 ∧ t.asid = s.asid ∧ t.tlb = s.tlb ∧ t.rr = s.rr ∧ (t.resp.fcode ≠ 7 → t.fcsr = s.fcsr) ∧
    (t.resp.fcode = 7 → ∃ exc : ExcSet, t.resp.fvalue = exc.setWidth 64 ∧ FcsrBecomes s t exc (s.fcsr.extractLsb' 16 5))

/-- O17, tier 2 (60_exceptions.md R2200, R2209). A fault of an FPU command is FPE and none occurs with ENABLES zero; a
fault of a SIMD command is ILLEGAL_IMM and only vmini and vmaxi raise it; a fault of a TLB command is PRIV, RANGE,
TLB_MISS or TLB_PERM, the last two only of a lookup; a fault of a CSR command is PRIV or RANGE. -/
def Obligations.FaultsComeFromListedCommands : Prop :=
  ∀ (i : Instr) (s t : State), exec i s = .next t → t.resp.status = .FAULT →
    (Fpu i → t.resp.fcode = 7 ∧ enables s ≠ 0) ∧
    (Simd i → t.resp.fcode = 3 ∧ i ∈ ([.vminiB, .vminiBu, .vminiH, .vminiHu, .vminiW, .vminiWu, .vminiD, .vminiDu,
      .vmaxiB, .vmaxiBu, .vmaxiH, .vmaxiHu, .vmaxiW, .vmaxiWu, .vmaxiD, .vmaxiDu] : List Instr)) ∧
    (Tlb i → t.resp.fcode = 2 ∧ i ∈ kernelOnly ∨ t.resp.fcode = 4 ∨
      (t.resp.fcode = 5 ∨ t.resp.fcode = 6) ∧ i ∈ ([.tlblookupR, .tlblookupW, .tlblookupX] : List Instr)) ∧
    (Csr i → t.resp.fcode = 2 ∨ t.resp.fcode = 4)

/-- O18, tier 2 (60_exceptions.md R2212 to R2214). No command executed with PRIV = U changes ASID, any TLB entry or
RR. -/
def Obligations.UserRequestsCannotTouchKernelState : Prop :=
  ∀ (i : Instr) (s t : State), s.req.priv = .U → exec i s = .next t → t.asid = s.asid ∧ t.tlb = s.tlb ∧ t.rr = s.rr

/-- O19, tier 1 (R2212). With PRIV = U, tlbfill, tlbprobe and the four tlbinv commands raise PRIV with the command
word as value, whatever their other operands, and csrrd and csrwr of ASID raise PRIV with IMM as value; each
changes nothing. With PRIV = K no command raises PRIV, and at either level csrrd and csrwr of FCSR and the three
lookups do not. -/
def Obligations.KernelOnlyCommandsTrapAtUser : Prop :=
  (∀ s : State, s.req.priv = .U →
      (∀ i ∈ kernelOnly, Raises i s 2 (s.req.cmd.setWidth 64)) ∧
      (s.req.imm = 1 → Raises .csrrd s 2 s.req.imm ∧ Raises .csrwr s 2 s.req.imm)) ∧
    (∀ (i : Instr) (s t : State), s.req.priv = .K → exec i s = .next t → t.resp.fcode ≠ 2) ∧
    ∀ (i : Instr) (s t : State), (i = .csrrd ∨ i = .csrwr) ∧ s.req.imm = 0 ∨ i = .tlblookupR ∨ i = .tlblookupW ∨
      i = .tlblookupX → exec i s = .next t → t.resp.fcode ≠ 2

/-- O20, tier 2 (R1012; R1400; R2012; 10_state.md R54 to R57; 48_csr.md R2102). No FPU command changes ASID, the TLB,
RR, or FCSR outside CAUSE and FLAGS; no SIMD command changes FCSR, ASID, the TLB or RR; no TLB command changes
FCSR or ASID or writes VR; no CSR command changes the TLB or RR or writes VR; csrrd and the lookups and tlbprobe
change no state at all. -/
def Obligations.UnitsTouchOnlyTheirState : Prop :=
  ∀ (i : Instr) (s t : State), exec i s = .next t →
    (Fpu i → t.asid = s.asid ∧ t.tlb = s.tlb ∧ t.rr = s.rr ∧ t.fcsr &&& (0xE0E0FFFF : BitVec 32) = s.fcsr &&& (0xE0E0FFFF : BitVec 32) ∧
      t.resp.vr = 0) ∧
    (Simd i → SameUnit s t ∧ t.resp.xr = 0) ∧
    (Tlb i → t.fcsr = s.fcsr ∧ t.asid = s.asid ∧ t.resp.vr = 0) ∧
    (Csr i → t.tlb = s.tlb ∧ t.rr = s.rr ∧ t.resp.vr = 0) ∧
    (i ∈ ([.csrrd, .tlblookupR, .tlblookupW, .tlblookupX, .tlbprobe] : List Instr) → SameUnit s t)

/-- O21, tier 2 (R56). Every command but csrwr keeps every FLAGS bit that is set; an FPU command that completes joins
to FLAGS exactly the set it leaves in CAUSE, one that traps leaves FLAGS unchanged, and SIMD, TLB and csrrd
commands leave it unchanged. -/
def Obligations.FlagsAreSticky : Prop :=
  ∀ (i : Instr) (s t : State), i ≠ .csrwr → exec i s = .next t →
    (∀ k, (s.fcsr.extractLsb' 16 5).getLsbD k = true → (t.fcsr.extractLsb' 16 5).getLsbD k = true) ∧
    (Fpu i → t.resp.status = .OK → t.fcsr.extractLsb' 16 5 = s.fcsr.extractLsb' 16 5 ||| t.fcsr.extractLsb' 24 5) ∧
    (Fpu i → t.resp.status = .FAULT → t.fcsr.extractLsb' 16 5 = s.fcsr.extractLsb' 16 5) ∧
    (¬Fpu i → t.fcsr.extractLsb' 16 5 = s.fcsr.extractLsb' 16 5)

/-- O22, tier 2 (10_state.md R58; 40_fp_arith.md R1012; 42_simd_lanewise.md R1400; 47_tlb.md R2011; 48_csr.md R2102;
30_encoding.md R160, R161). For every command, form by form as R160 lists what a form reads: two requests that
agree on the ports the form of the command reads, and on PC, give the same response and the same FCSR, ASID, TLB
and RR. XA, XB, XC, VA, VB, VC, IMM and PRIV are free where the form does not read them, and CMD is free but for
the commands that put it in a PRIV fault (R2011). -/
def Obligations.UnnamedInputsAreIgnored : Prop :=
  ∀ (i : Instr) (s t : State) (q : Request), exec i s = .next t →
    (ReadsXa i → q.xa = s.req.xa) → (ReadsXb i → q.xb = s.req.xb) → (ReadsXc i → q.xc = s.req.xc) →
    (Simd i → q.va = s.req.va) → (ReadsVb i → q.vb = s.req.vb) → (ReadsVc i → q.vc = s.req.vc) →
    (ReadsImm i → q.imm = s.req.imm) → (Tlb i ∨ Csr i → q.priv = s.req.priv) →
    (i ∈ kernelOnly → q.cmd = s.req.cmd) → q.pc = s.req.pc →
    exec i { s with req := q } = .next { t with req := q }

/-- O23, tier 1 (40_fp_arith.md R1010, R1012, R1030 to R1049; 10_state.md R52). Each of the twenty commands of
40_fp_arith.md, in every state, commits the result and exception set of its core on its operands, under FCSR.RM
where the core rounds: with no enabled exception in the set it completes with XR the result, CAUSE the set, FLAGS
joined with the set; with one it raises FPE with the whole set as value, CAUSE the set, FLAGS unchanged, no
result. No other bit of FCSR and no other state changes. -/
def Obligations.ArithmeticCommandsCommitTheirCores : Prop :=
  ∀ s : State,
    Commits .faddS s (addCore .S s.cfg.tininess (rm s) (operand .S s.req.xa) (operand .S s.req.xb)) ∧
    Commits .faddD s (addCore .D s.cfg.tininess (rm s) (operand .D s.req.xa) (operand .D s.req.xb)) ∧
    Commits .fsubS s (subCore .S s.cfg.tininess (rm s) (operand .S s.req.xa) (operand .S s.req.xb)) ∧
    Commits .fsubD s (subCore .D s.cfg.tininess (rm s) (operand .D s.req.xa) (operand .D s.req.xb)) ∧
    Commits .fmulS s (mulCore .S s.cfg.tininess (rm s) (operand .S s.req.xa) (operand .S s.req.xb)) ∧
    Commits .fmulD s (mulCore .D s.cfg.tininess (rm s) (operand .D s.req.xa) (operand .D s.req.xb)) ∧
    Commits .fdivS s (divCore .S s.cfg.tininess (rm s) (operand .S s.req.xa) (operand .S s.req.xb)) ∧
    Commits .fdivD s (divCore .D s.cfg.tininess (rm s) (operand .D s.req.xa) (operand .D s.req.xb)) ∧
    Commits .fmaddS s (fmaCore .S s.cfg.tininess (rm s) (operand .S s.req.xa) (operand .S s.req.xb) (operand .S s.req.xc)) ∧
    Commits .fmaddD s (fmaCore .D s.cfg.tininess (rm s) (operand .D s.req.xa) (operand .D s.req.xb) (operand .D s.req.xc)) ∧
    Commits .fminS s (numCore .S (pickMin .S) (operand .S s.req.xa) (operand .S s.req.xb)) ∧
    Commits .fminD s (numCore .D (pickMin .D) (operand .D s.req.xa) (operand .D s.req.xb)) ∧
    Commits .fmaxS s (numCore .S (pickMax .S) (operand .S s.req.xa) (operand .S s.req.xb)) ∧
    Commits .fmaxD s (numCore .D (pickMax .D) (operand .D s.req.xa) (operand .D s.req.xb)) ∧
    Commits .fminaS s (numCore .S (pickMinMag .S) (operand .S s.req.xa) (operand .S s.req.xb)) ∧
    Commits .fminaD s (numCore .D (pickMinMag .D) (operand .D s.req.xa) (operand .D s.req.xb)) ∧
    Commits .fmaxaS s (numCore .S (pickMaxMag .S) (operand .S s.req.xa) (operand .S s.req.xb)) ∧
    Commits .fmaxaD s (numCore .D (pickMaxMag .D) (operand .D s.req.xa) (operand .D s.req.xb)) ∧
    Commits .fclassS s (fclassCore .S (operand .S s.req.xa)) ∧
    Commits .fclassD s (fclassCore .D (operand .D s.req.xa))

/-- O24, tier 1 (40_fp_arith.md R1010; 41_fp_compare_convert.md R1200, R1210 to R1233). Each of the twenty-four
comparison commands, in every state, commits the truth value and the exception set of fcmp_core with its relation
and its quiet or signalling predicate, as FPCOMMIT says. -/
def Obligations.ComparisonCommandsCommitTheirCores : Prop :=
  ∀ s : State,
    Commits .fcmpQeqS s (fcmpCore .S .EQ false (operand .S s.req.xa) (operand .S s.req.xb)) ∧
    Commits .fcmpQeqD s (fcmpCore .D .EQ false (operand .D s.req.xa) (operand .D s.req.xb)) ∧
    Commits .fcmpQneS s (fcmpCore .S .NE false (operand .S s.req.xa) (operand .S s.req.xb)) ∧
    Commits .fcmpQneD s (fcmpCore .D .NE false (operand .D s.req.xa) (operand .D s.req.xb)) ∧
    Commits .fcmpQltS s (fcmpCore .S .LT false (operand .S s.req.xa) (operand .S s.req.xb)) ∧
    Commits .fcmpQltD s (fcmpCore .D .LT false (operand .D s.req.xa) (operand .D s.req.xb)) ∧
    Commits .fcmpQleS s (fcmpCore .S .LE false (operand .S s.req.xa) (operand .S s.req.xb)) ∧
    Commits .fcmpQleD s (fcmpCore .D .LE false (operand .D s.req.xa) (operand .D s.req.xb)) ∧
    Commits .fcmpQgtS s (fcmpCore .S .GT false (operand .S s.req.xa) (operand .S s.req.xb)) ∧
    Commits .fcmpQgtD s (fcmpCore .D .GT false (operand .D s.req.xa) (operand .D s.req.xb)) ∧
    Commits .fcmpQgeS s (fcmpCore .S .GE false (operand .S s.req.xa) (operand .S s.req.xb)) ∧
    Commits .fcmpQgeD s (fcmpCore .D .GE false (operand .D s.req.xa) (operand .D s.req.xb)) ∧
    Commits .fcmpSeqS s (fcmpCore .S .EQ true (operand .S s.req.xa) (operand .S s.req.xb)) ∧
    Commits .fcmpSeqD s (fcmpCore .D .EQ true (operand .D s.req.xa) (operand .D s.req.xb)) ∧
    Commits .fcmpSneS s (fcmpCore .S .NE true (operand .S s.req.xa) (operand .S s.req.xb)) ∧
    Commits .fcmpSneD s (fcmpCore .D .NE true (operand .D s.req.xa) (operand .D s.req.xb)) ∧
    Commits .fcmpSltS s (fcmpCore .S .LT true (operand .S s.req.xa) (operand .S s.req.xb)) ∧
    Commits .fcmpSltD s (fcmpCore .D .LT true (operand .D s.req.xa) (operand .D s.req.xb)) ∧
    Commits .fcmpSleS s (fcmpCore .S .LE true (operand .S s.req.xa) (operand .S s.req.xb)) ∧
    Commits .fcmpSleD s (fcmpCore .D .LE true (operand .D s.req.xa) (operand .D s.req.xb)) ∧
    Commits .fcmpSgtS s (fcmpCore .S .GT true (operand .S s.req.xa) (operand .S s.req.xb)) ∧
    Commits .fcmpSgtD s (fcmpCore .D .GT true (operand .D s.req.xa) (operand .D s.req.xb)) ∧
    Commits .fcmpSgeS s (fcmpCore .S .GE true (operand .S s.req.xa) (operand .S s.req.xb)) ∧
    Commits .fcmpSgeD s (fcmpCore .D .GE true (operand .D s.req.xa) (operand .D s.req.xb))

/-- O25, tier 1 (40_fp_arith.md R1010; 41_fp_compare_convert.md R1202 to R1205, R1240 to R1265). The two fcvt and four
ffint commands commit the result of their cores under FCSR.RM; each of the twenty ftint commands commits sext_64
of the integer of ftint_core with the rounding mode its mnemonic names, FCSR.RM for ftint itself, as FPCOMMIT
says, so a named mode does not change FCSR.RM. -/
def Obligations.ConversionCommandsCommitTheirCores : Prop :=
  ∀ s : State,
    Commits .fcvtSD s (fcvtCore .S .D s.cfg.tininess (rm s) (operand .D s.req.xa)) ∧
    Commits .fcvtDS s (fcvtCore .D .S s.cfg.tininess (rm s) (operand .S s.req.xa)) ∧
    Commits .ffintSW s (ffintCore .S s.cfg.tininess (rm s) (s.req.xa.setWidth 32).toInt) ∧
    Commits .ffintSL s (ffintCore .S s.cfg.tininess (rm s) s.req.xa.toInt) ∧
    Commits .ffintDW s (ffintCore .D s.cfg.tininess (rm s) (s.req.xa.setWidth 32).toInt) ∧
    Commits .ffintDL s (ffintCore .D s.cfg.tininess (rm s) s.req.xa.toInt) ∧
    ∀ p ∈ ([(.ftintWS, .S, 32, rm s), (.ftintrneWS, .S, 32, .RNE), (.ftintrzWS, .S, 32, .RZ),
      (.ftintrpWS, .S, 32, .RP), (.ftintrmWS, .S, 32, .RM), (.ftintLS, .S, 64, rm s),
      (.ftintrneLS, .S, 64, .RNE), (.ftintrzLS, .S, 64, .RZ), (.ftintrpLS, .S, 64, .RP),
      (.ftintrmLS, .S, 64, .RM), (.ftintWD, .D, 32, rm s), (.ftintrneWD, .D, 32, .RNE),
      (.ftintrzWD, .D, 32, .RZ), (.ftintrpWD, .D, 32, .RP), (.ftintrmWD, .D, 32, .RM),
      (.ftintLD, .D, 64, rm s), (.ftintrneLD, .D, 64, .RNE), (.ftintrzLD, .D, 64, .RZ),
      (.ftintrpLD, .D, 64, .RP), (.ftintrmLD, .D, 64, .RM)] :
      List (Instr × Fmt × Nat × RMode)),
      Commits p.1 s (BitVec.ofInt 64 (ftintCore p.2.1 p.2.2.1 p.2.2.2 (operand p.2.1 s.req.xa)).1,
        (ftintCore p.2.1 p.2.2.1 p.2.2.2 (operand p.2.1 s.req.xa)).2)

/-- O26, tier 2 (40_fp_arith.md R1005; 40_fp_arith.md R1001). For both formats, both settings of TININESS and every
rounding mode, RoundF of a nonzero real that equals the value of a finite pattern is that pattern, with the empty
exception set. -/
def Obligations.RoundingExactWhenRepresentable : Prop :=
  ∀ (F : Fmt) (t : Tininess) (m : RMode) (x : Exact) (b : Word), 0 < x.den → x.num ≠ 0 → IsFinite F b →
    x.real = real F b → roundF F t m x = (b, 0)

/-- O27, tier 2 (40_fp_arith.md R1005, R1006). For both formats and every nonzero real x under RNE: from half a unit
in the last place above the greatest finite value on, in magnitude, the result is the infinity of the sign of x
with O and I, and O is raised for no other x. Else the result is finite, no finite value of the format is closer
to x, and if another finite value is as close the result's significand is even. The result, a zero too, has the
sign of x. -/
def Obligations.RoundingToNearestIsNearest : Prop :=
  ∀ (F : Fmt) (t : Tininess) (x : Exact), 0 < x.den → x.num ≠ 0 →
    signOf F (roundF F t .RNE x).1 = signBit x.real ∧
    (greatestTie F ≤ |x.real| → roundF F t .RNE x = (infOf F (signBit x.real), 0b00101)) ∧
    (|x.real| < greatestTie F → (roundF F t .RNE x).2 &&& 0b00100 = 0 ∧
      IsFinite F (roundF F t .RNE x).1 ∧ ∀ y, IsFinite F y →
        |x.real - real F (roundF F t .RNE x).1| ≤ |x.real - real F y| ∧
        (|x.real - real F (roundF F t .RNE x).1| = |x.real - real F y| → real F y ≠ real F (roundF F t .RNE x).1 →
          significand F (roundF F t .RNE x).1 % 2 = 0))

/-- O28, tier 2 (40_fp_arith.md R1005, R1006). For both formats and every nonzero real x: under RP the result is +inf
only when every finite value is below x, and is otherwise the least finite value that is at least x; under RM the
same downward with -inf; under RZ it is the finite value of the sign of x or zero that is largest in magnitude
among those not beyond x. In each of these modes the result, a zero too, has the sign of x. -/
def Obligations.DirectedRoundingBrackets : Prop :=
  ∀ (F : Fmt) (t : Tininess) (x : Exact), 0 < x.den → x.num ≠ 0 →
    (∀ m ∈ ([.RP, .RM, .RZ] : List RMode), signOf F (roundF F t m x).1 = signBit x.real) ∧
    (IsInfinite F (roundF F t .RP x).1 ∧ signOf F (roundF F t .RP x).1 = 0 ∧ (∀ y, IsFinite F y → real F y < x.real) ∨
      IsFinite F (roundF F t .RP x).1 ∧ x.real ≤ real F (roundF F t .RP x).1 ∧
        ∀ y, IsFinite F y → x.real ≤ real F y → real F (roundF F t .RP x).1 ≤ real F y) ∧
    (IsInfinite F (roundF F t .RM x).1 ∧ signOf F (roundF F t .RM x).1 = 1 ∧ (∀ y, IsFinite F y → x.real < real F y) ∨
      IsFinite F (roundF F t .RM x).1 ∧ real F (roundF F t .RM x).1 ≤ x.real ∧
        ∀ y, IsFinite F y → real F y ≤ x.real → real F y ≤ real F (roundF F t .RM x).1) ∧
    IsFinite F (roundF F t .RZ x).1 ∧ |real F (roundF F t .RZ x).1| ≤ |x.real| ∧ 0 ≤ real F (roundF F t .RZ x).1 * x.real ∧
      ∀ y, IsFinite F y → |real F y| ≤ |x.real| → |real F y| ≤ |real F (roundF F t .RZ x).1|

/-- O29, tier 2 (40_fp_arith.md R1005 to R1007). For every rounding of a nonzero real: V and Z are never raised; O is
raised exactly when the magnitude rounded with an unbounded exponent range is 2^(emax+1) or more, which is said
mode by mode as a bound on the real, then with I alone, and only for a real beyond every finite value in
magnitude. Without overflow the result is finite, I is raised exactly when the result is not the real rounded, and
U only with I. An inexact result that does not overflow raises U with TININESS = BEFORE exactly when the magnitude
of the real is below 2^emin, and with TININESS = AFTER exactly when the magnitude of the real rounded in the mode
to p bits with an unbounded exponent range, the integer n times 2^(e-p+1) for 2^e at most and 2^(e+1) above the
magnitude, is below 2^emin. -/
def Obligations.RoundingExceptionsAreTrue : Prop :=
  ∀ (F : Fmt) (t : Tininess) (m : RMode) (x : Exact), 0 < x.den → x.num ≠ 0 →
    (roundF F t m x).2 &&& 0b11000 = 0 ∧
    ((roundF F t m x).2.getLsbD 2 = true ↔ Overflows F m x.real) ∧
    ((roundF F t m x).2.getLsbD 2 = true → (roundF F t m x).2 = 0b00101 ∧ ∀ y, IsFinite F y → real F y < |x.real|) ∧
    ((2 : ℚ) ^ (emaxOf F + 1) ≤ |x.real| → (roundF F t m x).2.getLsbD 2 = true) ∧
    ((roundF F t m x).2.getLsbD 2 = false → IsFinite F (roundF F t m x).1 ∧
      ((roundF F t m x).2.getLsbD 0 = true ↔ real F (roundF F t m x).1 ≠ x.real) ∧
      ((roundF F t m x).2.getLsbD 1 = true → (roundF F t m x).2.getLsbD 0 = true) ∧
      (t = .before → (roundF F t m x).2.getLsbD 0 = true →
        ((roundF F t m x).2.getLsbD 1 = true ↔ |x.real| < (2 : ℚ) ^ eminOf F)) ∧
      (t = .after → (roundF F t m x).2.getLsbD 0 = true → ∀ e n : Int,
        (2 : ℚ) ^ e ≤ |x.real| → |x.real| < (2 : ℚ) ^ (e + 1) → RoundsTo m (x.real / (2 : ℚ) ^ (e - precOf F + 1)) n →
        ((roundF F t m x).2.getLsbD 1 = true ↔ |(n : ℚ)| * (2 : ℚ) ^ (e - precOf F + 1) < (2 : ℚ) ^ eminOf F)))

/-- O30, tier 2 (40_fp_arith.md R1013 to R1017). For finite operands, whenever the exact real sum, difference,
product, quotient by a nonzero divisor, or fused product and sum is a nonzero real x, the core's result and
exception set are RoundF of x, for whatever fraction stands for x. So the fused form rounds once, never the
rounded product. -/
def Obligations.ArithmeticRoundsTheExactResult : Prop :=
  ∀ (F : Fmt) (t : Tininess) (m : RMode) (a b c : Word) (x : Exact), IsFinite F a → IsFinite F b → IsFinite F c → 0 < x.den → x.num ≠ 0 →
    (x.real = real F a + real F b → addCore F t m a b = roundF F t m x) ∧
    (x.real = real F a - real F b → subCore F t m a b = roundF F t m x) ∧
    (x.real = real F a * real F b → mulCore F t m a b = roundF F t m x) ∧
    (real F b ≠ 0 → x.real = real F a / real F b → divCore F t m a b = roundF F t m x) ∧
    (x.real = real F a * real F b + real F c → fmaCore F t m a b c = roundF F t m x)

/-- O31, tier 2 (R1011). For finite operands: when the exact sum is zero, the result of the addition is a zero with
the common sign for two zeros of the same sign and otherwise -0 under RM and +0 else; the fused form likewise with
the product's sign; an exact zero product, and an exact zero quotient by a nonzero divisor, has the exclusive or
of the signs. None of these raises an exception. And every product or quotient of operands that are no NaN that is
a zero, a rounded one too, has the exclusive or of the signs. -/
def Obligations.ZeroResultsHaveTheRightSign : Prop :=
  (∀ (F : Fmt) (t : Tininess) (m : RMode) (a b c : Word), IsFinite F a → IsFinite F b → IsFinite F c →
    (real F a + real F b = 0 → (addCore F t m a b).2 = 0 ∧ IsFinite F (addCore F t m a b).1 ∧
      real F (addCore F t m a b).1 = 0 ∧
      signOf F (addCore F t m a b).1 =
        if real F a = 0 ∧ signOf F a = signOf F b then signOf F a else if m = .RM then 1 else 0) ∧
    (real F a - real F b = 0 → (subCore F t m a b).2 = 0 ∧ IsFinite F (subCore F t m a b).1 ∧
      real F (subCore F t m a b).1 = 0 ∧
      signOf F (subCore F t m a b).1 =
        if real F a = 0 ∧ signOf F a ≠ signOf F b then signOf F a else if m = .RM then 1 else 0) ∧
    (real F a * real F b = 0 → (mulCore F t m a b).2 = 0 ∧ IsFinite F (mulCore F t m a b).1 ∧
      real F (mulCore F t m a b).1 = 0 ∧ signOf F (mulCore F t m a b).1 = (signOf F a + signOf F b) % 2) ∧
    (real F b ≠ 0 → real F a = 0 → (divCore F t m a b).2 = 0 ∧ IsFinite F (divCore F t m a b).1 ∧
      real F (divCore F t m a b).1 = 0 ∧ signOf F (divCore F t m a b).1 = (signOf F a + signOf F b) % 2) ∧
    (real F a * real F b + real F c = 0 → (fmaCore F t m a b c).2 = 0 ∧ IsFinite F (fmaCore F t m a b c).1 ∧
      real F (fmaCore F t m a b c).1 = 0 ∧
      signOf F (fmaCore F t m a b c).1 =
        if real F a * real F b = 0 ∧ (signOf F a + signOf F b) % 2 = signOf F c then signOf F c
        else if m = .RM then 1 else 0)) ∧
    ∀ (F : Fmt) (t : Tininess) (m : RMode) (a b : Word), IsPattern F a → IsPattern F b → ¬IsNan F a → ¬IsNan F b →
      (expOf F (mulCore F t m a b).1 = 0 → fracOf F (mulCore F t m a b).1 = 0 →
        signOf F (mulCore F t m a b).1 = (signOf F a + signOf F b) % 2) ∧
      (expOf F (divCore F t m a b).1 = 0 → fracOf F (divCore F t m a b).1 = 0 →
        signOf F (divCore F t m a b).1 = (signOf F a + signOf F b) % 2)

/-- O32, tier 2 (R1009). For add, sub, mul and div of patterns of which at least one is a NaN, and for the fused form
of which at least one of three is: the result is the first signalling NaN in the order XA, XB, XC, else the first
NaN, with the quiet bit set and every other bit kept; V is raised exactly when an operand is a signalling NaN, or
in the fused form when XA and XB are an infinity and a zero (R1017). -/
def Obligations.NanOperandsPropagate : Prop :=
  ∀ (F : Fmt) (t : Tininess) (m : RMode) (a b c n : Word),
    (∀ core ∈ [addCore F t m, subCore F t m, mulCore F t m, divCore F t m],
      (n = a ∧ IsSignalling F a ∨ n = b ∧ IsSignalling F b ∧ ¬IsSignalling F a ∨
        n = a ∧ IsNan F a ∧ ¬IsSignalling F a ∧ ¬IsSignalling F b ∨ n = b ∧ IsNan F b ∧ ¬IsSignalling F b ∧ ¬IsNan F a) →
      core a b = (n ||| (match F with | .S => (0x400000 : Word) | .D => 0x8000000000000),
        open Classical in if IsSignalling F a ∨ IsSignalling F b then 0b10000 else 0)) ∧
    ((n = a ∧ IsSignalling F a ∨ n = b ∧ IsSignalling F b ∧ ¬IsSignalling F a ∨
        n = c ∧ IsSignalling F c ∧ ¬IsSignalling F a ∧ ¬IsSignalling F b ∨
        ¬IsSignalling F a ∧ ¬IsSignalling F b ∧ ¬IsSignalling F c ∧
          (n = a ∧ IsNan F a ∨ n = b ∧ IsNan F b ∧ ¬IsNan F a ∨ n = c ∧ IsNan F c ∧ ¬IsNan F a ∧ ¬IsNan F b)) →
      fmaCore F t m a b c = (n ||| (match F with | .S => (0x400000 : Word) | .D => 0x8000000000000),
        open Classical in
        if IsSignalling F a ∨ IsSignalling F b ∨ IsSignalling F c ∨
          IsInfinite F a ∧ expOf F b = 0 ∧ fracOf F b = 0 ∨ expOf F a = 0 ∧ fracOf F a = 0 ∧ IsInfinite F b
        then 0b10000 else 0))

/-- O33, tier 2 (40_fp_arith.md R1013 to R1017). For operands that are no NaN. Addition: infinities of opposite signs
give the default NaN with V; an infinity and a finite value, or two infinities of the same sign, give that
infinity. Subtraction is that with the second operand's sign inverted. Multiplication: an infinity and a zero, in
either order, give the default NaN with V; an infinity and a nonzero number, in either order, the infinity of the
exclusive or of the signs. Division: two infinities and two zeros give the default NaN with V, a finite nonzero
dividend over a zero the infinity of the exclusive or of the signs with Z, an infinity over a finite value that
infinity, a finite value over an infinity the zero of that sign. Fused form: an infinity times a zero plus a
number gives the default NaN with V; an infinite product and an infinity of the opposite sign the default NaN with
V; an infinite product and any other number the infinity of the product's sign; a finite product plus an infinity
that infinity. Where no exception is named none is raised. -/
def Obligations.InfinitiesAndDivisionByZero : Prop :=
  ∀ (F : Fmt) (t : Tininess) (m : RMode) (a b c : Word),
    (IsInfinite F a → IsInfinite F b → signOf F a ≠ signOf F b →
      addCore F t m a b = (nan F, 0b10000) ∧ subCore F t m a b = (a, 0)) ∧
    (IsInfinite F a → IsInfinite F b → signOf F a = signOf F b →
      addCore F t m a b = (a, 0) ∧ subCore F t m a b = (nan F, 0b10000)) ∧
    (IsInfinite F a → IsFinite F b → addCore F t m a b = (a, 0) ∧ addCore F t m b a = (a, 0) ∧
      subCore F t m a b = (a, 0) ∧ subCore F t m b a = (a ^^^ signMask F, 0)) ∧
    (IsInfinite F a → IsZero F b → mulCore F t m a b = (nan F, 0b10000) ∧ mulCore F t m b a = (nan F, 0b10000)) ∧
    (IsInfinite F a → ¬IsNan F b → ¬IsZero F b →
      mulCore F t m a b = (infOf F ((signOf F a + signOf F b) % 2), 0) ∧
      mulCore F t m b a = (infOf F ((signOf F a + signOf F b) % 2), 0)) ∧
    (IsInfinite F a → IsInfinite F b → divCore F t m a b = (nan F, 0b10000)) ∧
    (IsZero F a → IsZero F b → divCore F t m a b = (nan F, 0b10000)) ∧
    (IsFinite F a → ¬IsZero F a → IsZero F b → divCore F t m a b = (infOf F ((signOf F a + signOf F b) % 2), 0b01000)) ∧
    (IsInfinite F a → IsFinite F b → divCore F t m a b = (infOf F ((signOf F a + signOf F b) % 2), 0) ∧
      divCore F t m b a = (zeroOf F ((signOf F a + signOf F b) % 2), 0)) ∧
    (IsInfinite F a ∧ IsZero F b ∨ IsZero F a ∧ IsInfinite F b → ¬IsNan F c → fmaCore F t m a b c = (nan F, 0b10000)) ∧
    (IsInfinite F a ∧ ¬IsNan F b ∧ ¬IsZero F b ∨ IsInfinite F b ∧ ¬IsNan F a ∧ ¬IsZero F a →
      (IsInfinite F c → signOf F c ≠ (signOf F a + signOf F b) % 2 → fmaCore F t m a b c = (nan F, 0b10000)) ∧
      (IsInfinite F c → signOf F c = (signOf F a + signOf F b) % 2 →
        fmaCore F t m a b c = (infOf F ((signOf F a + signOf F b) % 2), 0)) ∧
      (IsFinite F c → fmaCore F t m a b c = (infOf F ((signOf F a + signOf F b) % 2), 0))) ∧
    (IsFinite F a → IsFinite F b → IsInfinite F c → fmaCore F t m a b c = (c, 0))

/-- O34, tier 2 (40_fp_arith.md R1018). For two patterns that are no NaN, infinities among them, the four give, with
no exception: of two different values fmin the pattern of the lesser and fmax that of the greater; of two equal
values of the same sign the first pattern, and of two zeros of different signs fmin -0 and fmax +0. Of two
different magnitudes fmina gives the pattern of the lesser and fmaxa that of the greater; of two equal magnitudes
fmina gives what fmin and fmaxa what fmax gives. So every result is an operand's pattern but the zero of that tie,
and of finite values fmin is a least and fmax a greatest one. Beside a NaN a number is returned unchanged, with V
exactly when the NaN is signalling; two NaNs give the NaN and the exception set that they give in an addition
(R1009). -/
def Obligations.MinMaxNeverReturnsNanBesideNumber : Prop :=
  ∀ (F : Fmt) (a b : Word),
    (IsNumber F a → IsNumber F b →
      (XLt F a b → numCore F (pickMin F) a b = (a, 0) ∧ numCore F (pickMax F) a b = (b, 0)) ∧
      (XLt F b a → numCore F (pickMin F) a b = (b, 0) ∧ numCore F (pickMax F) a b = (a, 0)) ∧
      (¬XLt F a b → ¬XLt F b a → signOf F a = signOf F b →
        numCore F (pickMin F) a b = (a, 0) ∧ numCore F (pickMax F) a b = (a, 0)) ∧
      (¬XLt F a b → ¬XLt F b a → signOf F a ≠ signOf F b → IsZero F a ∧ IsZero F b ∧
        numCore F (pickMin F) a b = (zeroOf F 1, 0) ∧ numCore F (pickMax F) a b = (zeroOf F 0, 0)) ∧
      (XLtMag F a b → numCore F (pickMinMag F) a b = (a, 0) ∧ numCore F (pickMaxMag F) a b = (b, 0)) ∧
      (XLtMag F b a → numCore F (pickMinMag F) a b = (b, 0) ∧ numCore F (pickMaxMag F) a b = (a, 0)) ∧
      (¬XLtMag F a b → ¬XLtMag F b a → numCore F (pickMinMag F) a b = numCore F (pickMin F) a b ∧
        numCore F (pickMaxMag F) a b = numCore F (pickMax F) a b)) ∧
    (IsFinite F a → IsFinite F b →
      real F (numCore F (pickMin F) a b).1 = min (real F a) (real F b) ∧
      real F (numCore F (pickMax F) a b).1 = max (real F a) (real F b)) ∧
    (∀ pick ∈ [pickMin F, pickMax F, pickMinMag F, pickMaxMag F], IsNan F a → ¬IsNan F b →
      numCore F pick a b = (b, open Classical in if IsSignalling F a then 0b10000 else 0) ∧
      numCore F pick b a = (b, open Classical in if IsSignalling F a then 0b10000 else 0)) ∧
    ∀ pick ∈ [pickMin F, pickMax F, pickMinMag F, pickMaxMag F], IsNan F a → IsNan F b →
      numCore F pick a b = addCore F .after .RNE a b

/-- O35, tier 2 (R1019). For every binary32 and every binary64 pattern, fclass returns the bit of the one class the
pattern is in by its sign, exponent and fraction: 0 and 7 the infinities, 1 and 6 the normals, 2 and 5 the
subnormals, 3 and 4 the zeros, negative and positive, 8 a quiet and 9 a signalling NaN of either sign; the result
is a power of two below 2^10 and no exception is raised. -/
def Obligations.ClassificationPartitionsThePatterns : Prop :=
  ∀ (F : Fmt) (a : Word), (fclassCore F a).2 = 0 ∧ ∃ k : Nat, k < 10 ∧ (fclassCore F a).1.toNat = 2 ^ k ∧
    (k = 0 ↔ IsInfinite F a ∧ signOf F a = 1) ∧
    (k = 1 ↔ expOf F a ≠ 0 ∧ expOf F a ≠ topExp F ∧ signOf F a = 1) ∧
    (k = 2 ↔ expOf F a = 0 ∧ fracOf F a ≠ 0 ∧ signOf F a = 1) ∧
    (k = 3 ↔ expOf F a = 0 ∧ fracOf F a = 0 ∧ signOf F a = 1) ∧
    (k = 4 ↔ expOf F a = 0 ∧ fracOf F a = 0 ∧ signOf F a = 0) ∧
    (k = 5 ↔ expOf F a = 0 ∧ fracOf F a ≠ 0 ∧ signOf F a = 0) ∧
    (k = 6 ↔ expOf F a ≠ 0 ∧ expOf F a ≠ topExp F ∧ signOf F a = 0) ∧
    (k = 7 ↔ IsInfinite F a ∧ signOf F a = 0) ∧
    (k = 8 ↔ IsNan F a ∧ quietOf F a = 1) ∧
    (k = 9 ↔ IsNan F a ∧ quietOf F a = 0)

/-- O36, tier 2 (R1200; R1201). fcmp_core of two finite patterns is 1 exactly when the relation holds of their values,
so -0 equals +0, and raises nothing; an infinity compares as beyond every finite value; with a NaN operand the
result is 1 for NE and 0 for the other relations, and V is raised by the signalling form always and by the quiet
form exactly when an operand is a signalling NaN. -/
def Obligations.ComparisonsDecideTheRelation : Prop :=
  ∀ (F : Fmt) (r : Rel) (sig : Bool) (a b : Word),
    (IsFinite F a → IsFinite F b → (fcmpCore F r sig a b).2 = 0 ∧
      (relOn r (real F a) (real F b) → (fcmpCore F r sig a b).1 = 1) ∧
      (¬relOn r (real F a) (real F b) → (fcmpCore F r sig a b).1 = 0)) ∧
    (IsInfinite F a → IsFinite F b →
      fcmpCore F r sig a b = ((if signOf F a = 0 then (if r = .GT ∨ r = .GE ∨ r = .NE then 1 else 0)
        else if r = .LT ∨ r = .LE ∨ r = .NE then 1 else 0), 0) ∧
      fcmpCore F r sig b a = ((if signOf F a = 0 then (if r = .LT ∨ r = .LE ∨ r = .NE then 1 else 0)
        else if r = .GT ∨ r = .GE ∨ r = .NE then 1 else 0), 0)) ∧
    (IsInfinite F a → IsInfinite F b → signOf F a = signOf F b →
      fcmpCore F r sig a b = ((if r = .EQ ∨ r = .LE ∨ r = .GE then 1 else 0), 0)) ∧
    (IsInfinite F a → IsInfinite F b → signOf F a < signOf F b →
      fcmpCore F r sig a b = ((if r = .GT ∨ r = .GE ∨ r = .NE then 1 else 0), 0) ∧
      fcmpCore F r sig b a = ((if r = .LT ∨ r = .LE ∨ r = .NE then 1 else 0), 0)) ∧
    (IsNan F a ∨ IsNan F b → (fcmpCore F r sig a b).1 = (if r = .NE then 1 else 0) ∧
      (fcmpCore F r sig a b).2 =
        open Classical in if sig = true ∨ IsSignalling F a ∨ IsSignalling F b then 0b10000 else 0)

/-- O37, tier 2 (R1202). fcvt.d.s of a finite binary32 pattern has the same value and sign and raises nothing, in
every rounding mode; either conversion keeps an infinity and its sign without exception; a NaN converts to a quiet
NaN of the same sign with the top fraction bits kept, shifted by 29 places, with V exactly when it is signalling;
fcvt.s.d of a finite nonzero pattern is RoundF of its value. -/
def Obligations.WideningConversionIsExact : Prop :=
  ∀ (t : Tininess) (m : RMode) (a : Word),
    (IsFinite .S a → IsFinite .D (fcvtCore .D .S t m a).1 ∧ real .D (fcvtCore .D .S t m a).1 = real .S a ∧
      signOf .D (fcvtCore .D .S t m a).1 = signOf .S a ∧ (fcvtCore .D .S t m a).2 = 0) ∧
    (∀ Fs Fd : Fmt, IsInfinite Fs a → IsInfinite Fd (fcvtCore Fd Fs t m a).1 ∧
      signOf Fd (fcvtCore Fd Fs t m a).1 = signOf Fs a ∧ (fcvtCore Fd Fs t m a).2 = 0) ∧
    (∀ Fs Fd : Fmt, IsNan Fs a → IsNan Fd (fcvtCore Fd Fs t m a).1 ∧ quietOf Fd (fcvtCore Fd Fs t m a).1 = 1 ∧
      signOf Fd (fcvtCore Fd Fs t m a).1 = signOf Fs a ∧
      (fcvtCore Fd Fs t m a).2 = (open Classical in if IsSignalling Fs a then 0b10000 else 0)) ∧
    (IsNan .S a → fracOf .D (fcvtCore .D .S t m a).1 = (fracOf .S a ||| 2 ^ 22) * 2 ^ 29) ∧
    (IsNan .D a → fracOf .S (fcvtCore .S .D t m a).1 = fracOf .D a / 2 ^ 29 ||| 2 ^ 22) ∧
    (IsFinite .D a → real .D a = 0 → (fcvtCore .S .D t m a).2 = 0 ∧ IsFinite .S (fcvtCore .S .D t m a).1 ∧
      real .S (fcvtCore .S .D t m a).1 = 0 ∧ signOf .S (fcvtCore .S .D t m a).1 = signOf .D a) ∧
    ∀ x : Exact, IsFinite .D a → 0 < x.den → x.num ≠ 0 → x.real = real .D a →
      fcvtCore .S .D t m a = roundF .S t m x

/-- O38, tier 2 (41_fp_compare_convert.md R1203, R1204). For a finite pattern of value v and iw of 32 or 64, let n be
v rounded: down under RM, up under RP, toward zero under RZ, to the nearest integer with ties to even under RNE.
If n is in the signed range the integer is n, with I exactly when n differs from v; above the range it is the
greatest integer with V, below it the least with V. An infinity saturates by its sign and a NaN gives 0, both with
V. -/
def Obligations.FloatToIntegerRoundsAsNamed : Prop :=
  ∀ (F : Fmt) (iw : Nat) (m : RMode) (a : Word) (n : Int), iw = 32 ∨ iw = 64 →
    (IsFinite F a → (match m with
        | .RM => (n : ℚ) ≤ real F a ∧ real F a < n + 1
        | .RP => (n : ℚ) - 1 < real F a ∧ real F a ≤ n
        | .RZ => |(n : ℚ)| ≤ |real F a| ∧ |real F a| < |(n : ℚ)| + 1 ∧ 0 ≤ (n : ℚ) * real F a
        | .RNE => |real F a - n| < 1 / 2 ∨ |real F a - n| = 1 / 2 ∧ n % 2 = 0) →
      ftintCore F iw m a =
        if 2 ^ (iw - 1) - 1 < n then (2 ^ (iw - 1) - 1, 0b10000)
        else if n < -2 ^ (iw - 1) then (-2 ^ (iw - 1), 0b10000)
        else (n, open Classical in if (n : ℚ) = real F a then 0 else 0b00001)) ∧
    (IsInfinite F a → ftintCore F iw m a = (if signOf F a = 1 then -2 ^ (iw - 1) else 2 ^ (iw - 1) - 1, 0b10000)) ∧
    (IsNan F a → ftintCore F iw m a = (0, 0b10000))

/-- O39, tier 2 (R1205). ffint_core of 0 is +0 without exception; of a nonzero integer it is RoundF of that integer,
for whatever fraction stands for it; an integer of magnitude at most 2^53 converts to binary64 exactly with no
exception, so ffint.d.w is always exact, and one of magnitude at most 2^24 converts to binary32 exactly. -/
def Obligations.IntegerToFloatRoundsTheInteger : Prop :=
  ∀ (F : Fmt) (t : Tininess) (m : RMode) (n : Int),
    (n = 0 → ffintCore F t m n = (0, 0)) ∧
    (∀ x : Exact, n ≠ 0 → 0 < x.den → x.real = (n : ℚ) → ffintCore F t m n = roundF F t m x) ∧
    (n.natAbs ≤ (match F with | .S => 2 ^ 24 | .D => 2 ^ 53) → IsFinite F (ffintCore F t m n).1 ∧
      real F (ffintCore F t m n).1 = (n : ℚ) ∧ (ffintCore F t m n).2 = 0)

/-- O40, tier 2 (42_simd_lanewise.md R1402, R1420 to R1429). For every legal unit, every vadd and vsub command
completes with lane k of VR the sum or difference of lane k of VA and VB modulo 2^W, for every lane below VLEN/W,
with no bit of VR at or above VLEN, XR zero, and nothing else changed. -/
def Obligations.WrappingLanes : Prop :=
  ∀ s : State, s.cfg.legal = true →
    (∀ p ∈ ([(.vaddB, 8), (.vaddH, 16), (.vaddW, 32), (.vaddD, 64), (.vaddQ, 128)] : List (Instr × Nat)),
        Gives p.1 s p.2 fun k => laneU p.2 s.req.va k + laneU p.2 s.req.vb k) ∧
    (∀ p ∈ ([(.vsubB, 8), (.vsubH, 16), (.vsubW, 32), (.vsubD, 64), (.vsubQ, 128)] : List (Instr × Nat)),
        Gives p.1 s p.2 fun k => laneU p.2 s.req.va k - laneU p.2 s.req.vb k)

/-- O41, tier 2 (R1403). For every legal unit, every vsadd and vssub command completes with lane k of VR, read as
signed or unsigned as the command says, exactly the sum or difference of lane k of VA and VB, read the same way,
clamped to the range of W bits of that sign; XR is zero and nothing else changes. -/
def Obligations.SaturatingLanes : Prop :=
  ∀ s : State, s.cfg.legal = true →
    (∀ p ∈ ([(.vsaddB, 8, .S), (.vsaddBu, 8, .U), (.vsaddH, 16, .S), (.vsaddHu, 16, .U), (.vsaddW, 32, .S),
        (.vsaddWu, 32, .U), (.vsaddD, 64, .S), (.vsaddDu, 64, .U)] : List (Instr × Nat × Sign)),
        GivesExactly p.1 s p.2.1 p.2.2 fun k => clamp p.2.2 p.2.1 (laneOf p.2.2 p.2.1 s.req.va k + laneOf p.2.2 p.2.1 s.req.vb k)) ∧
    (∀ p ∈ ([(.vssubB, 8, .S), (.vssubBu, 8, .U), (.vssubH, 16, .S), (.vssubHu, 16, .U), (.vssubW, 32, .S),
        (.vssubWu, 32, .U), (.vssubD, 64, .S), (.vssubDu, 64, .U)] : List (Instr × Nat × Sign)),
        GivesExactly p.1 s p.2.1 p.2.2 fun k => clamp p.2.2 p.2.1 (laneOf p.2.2 p.2.1 s.req.va k - laneOf p.2.2 p.2.1 s.req.vb k))

/-- O42, tier 2 (R1404). For every legal unit, every vavg and vavgr command completes with lane k of VR, read as
signed or unsigned as the command says, exactly the floor of half the full-precision sum, or of half the sum plus
one, of lane k of VA and VB read the same way; XR is zero and nothing else changes. -/
def Obligations.AverageLanes : Prop :=
  ∀ s : State, s.cfg.legal = true →
    (∀ p ∈ ([(.vavgB, 8, .S), (.vavgBu, 8, .U), (.vavgH, 16, .S), (.vavgHu, 16, .U), (.vavgW, 32, .S),
        (.vavgWu, 32, .U), (.vavgD, 64, .S), (.vavgDu, 64, .U)] : List (Instr × Nat × Sign)),
        GivesExactly p.1 s p.2.1 p.2.2 fun k => ⌊(((laneOf p.2.2 p.2.1 s.req.va k + laneOf p.2.2 p.2.1 s.req.vb k : Int) : ℚ)) / 2⌋) ∧
    (∀ p ∈ ([(.vavgrB, 8, .S), (.vavgrBu, 8, .U), (.vavgrH, 16, .S), (.vavgrHu, 16, .U), (.vavgrW, 32, .S),
        (.vavgrWu, 32, .U), (.vavgrD, 64, .S), (.vavgrDu, 64, .U)] : List (Instr × Nat × Sign)),
        GivesExactly p.1 s p.2.1 p.2.2 fun k => ⌊(((laneOf p.2.2 p.2.1 s.req.va k + laneOf p.2.2 p.2.1 s.req.vb k + 1 : Int) : ℚ)) / 2⌋)

/-- O43, tier 2 (R1405). For every legal unit, every vabsd command completes with lane k of VR the absolute difference
of lane k of VA and VB read as signed or unsigned, exact as an unsigned number; every vabsdacc command with that
difference added to lane k of VC modulo 2^W; XR is zero and nothing else changes. -/
def Obligations.AbsoluteDifferenceLanes : Prop :=
  ∀ s : State, s.cfg.legal = true →
    (∀ p ∈ ([(.vabsdB, 8, .S), (.vabsdBu, 8, .U), (.vabsdH, 16, .S), (.vabsdHu, 16, .U), (.vabsdW, 32, .S),
        (.vabsdWu, 32, .U), (.vabsdD, 64, .S), (.vabsdDu, 64, .U)] : List (Instr × Nat × Sign)),
        GivesExactly p.1 s p.2.1 .U fun k => |laneOf p.2.2 p.2.1 s.req.va k - laneOf p.2.2 p.2.1 s.req.vb k|) ∧
    (∀ p ∈ ([(.vabsdaccB, 8, .S), (.vabsdaccBu, 8, .U), (.vabsdaccH, 16, .S), (.vabsdaccHu, 16, .U),
        (.vabsdaccW, 32, .S), (.vabsdaccWu, 32, .U), (.vabsdaccD, 64, .S), (.vabsdaccDu, 64, .U)] : List (Instr × Nat × Sign)),
        Gives p.1 s p.2.1 fun k => laneU p.2.1 s.req.vc k + |laneOf p.2.2 p.2.1 s.req.va k - laneOf p.2.2 p.2.1 s.req.vb k|)

/-- O44, tier 2 (R1500). For every legal unit, every vmin and vmax command completes with lane k of VR the lesser or
the greater of lane k of VA and VB, compared as signed or unsigned as the command says; XR is zero and nothing
else changes. -/
def Obligations.MinMaxLanes : Prop :=
  ∀ s : State, s.cfg.legal = true →
    (∀ p ∈ ([(.vminB, 8, .S), (.vminBu, 8, .U), (.vminH, 16, .S), (.vminHu, 16, .U), (.vminW, 32, .S),
        (.vminWu, 32, .U), (.vminD, 64, .S), (.vminDu, 64, .U)] : List (Instr × Nat × Sign)),
        GivesExactly p.1 s p.2.1 p.2.2 fun k => min (laneOf p.2.2 p.2.1 s.req.va k) (laneOf p.2.2 p.2.1 s.req.vb k)) ∧
    (∀ p ∈ ([(.vmaxB, 8, .S), (.vmaxBu, 8, .U), (.vmaxH, 16, .S), (.vmaxHu, 16, .U), (.vmaxW, 32, .S),
        (.vmaxWu, 32, .U), (.vmaxD, 64, .S), (.vmaxDu, 64, .U)] : List (Instr × Nat × Sign)),
        GivesExactly p.1 s p.2.1 p.2.2 fun k => max (laneOf p.2.2 p.2.1 s.req.va k) (laneOf p.2.2 p.2.1 s.req.vb k))

/-- O45, tier 2 (R1501). For every legal unit, every vmini and vmaxi command with an immediate from -16 to 15 (signed)
or 0 to 31 (unsigned) completes with lane k of VR the lesser or greater of lane k of VA and the immediate; with
any other immediate it raises ILLEGAL_IMM with IMM as value and changes nothing. -/
def Obligations.ImmediateMinMaxLanes : Prop :=
  ∀ s : State, s.cfg.legal = true →
    (∀ p ∈ ([(.vminiB, 8, .S), (.vminiBu, 8, .U), (.vminiH, 16, .S), (.vminiHu, 16, .U), (.vminiW, 32, .S),
        (.vminiWu, 32, .U), (.vminiD, 64, .S), (.vminiDu, 64, .U)] : List (Instr × Nat × Sign)),
        ((p.2.2 = .S → -16 ≤ s.req.imm.toInt ∧ s.req.imm.toInt ≤ 15) → (p.2.2 = .U → 0 ≤ s.req.imm.toInt ∧ s.req.imm.toInt ≤ 31) →
          Gives p.1 s p.2.1 fun k => min (laneOf p.2.2 p.2.1 s.req.va k) s.req.imm.toInt) ∧
        ((p.2.2 = .S ∧ (s.req.imm.toInt < -16 ∨ 15 < s.req.imm.toInt) ∨ p.2.2 = .U ∧ (s.req.imm.toInt < 0 ∨ 31 < s.req.imm.toInt)) →
          Raises p.1 s 3 s.req.imm)) ∧
    (∀ p ∈ ([(.vmaxiB, 8, .S), (.vmaxiBu, 8, .U), (.vmaxiH, 16, .S), (.vmaxiHu, 16, .U), (.vmaxiW, 32, .S),
        (.vmaxiWu, 32, .U), (.vmaxiD, 64, .S), (.vmaxiDu, 64, .U)] : List (Instr × Nat × Sign)),
        ((p.2.2 = .S → -16 ≤ s.req.imm.toInt ∧ s.req.imm.toInt ≤ 15) → (p.2.2 = .U → 0 ≤ s.req.imm.toInt ∧ s.req.imm.toInt ≤ 31) →
          Gives p.1 s p.2.1 fun k => max (laneOf p.2.2 p.2.1 s.req.va k) s.req.imm.toInt) ∧
        ((p.2.2 = .S ∧ (s.req.imm.toInt < -16 ∨ 15 < s.req.imm.toInt) ∨ p.2.2 = .U ∧ (s.req.imm.toInt < 0 ∨ 31 < s.req.imm.toInt)) →
          Raises p.1 s 3 s.req.imm))

/-- O46, tier 2 (R1600; R1601; R1602). For every legal unit: vmul gives the product of the lanes modulo 2^W, vmuh the
upper half of the full product of the lanes read as signed or unsigned, vmadd the lane of VC plus and vmsub minus
the product modulo 2^W; each completes, XR is zero and nothing else changes. -/
def Obligations.MultiplyLanes : Prop :=
  ∀ s : State, s.cfg.legal = true →
    (∀ p ∈ ([(.vmulB, 8), (.vmulH, 16), (.vmulW, 32), (.vmulD, 64)] : List (Instr × Nat)),
        Gives p.1 s p.2 fun k => laneU p.2 s.req.va k * laneU p.2 s.req.vb k) ∧
    (∀ p ∈ ([(.vmuhB, 8, .S), (.vmuhBu, 8, .U), (.vmuhH, 16, .S), (.vmuhHu, 16, .U), (.vmuhW, 32, .S),
        (.vmuhWu, 32, .U), (.vmuhD, 64, .S), (.vmuhDu, 64, .U)] : List (Instr × Nat × Sign)),
        Gives p.1 s p.2.1 fun k => ⌊((laneOf p.2.2 p.2.1 s.req.va k * laneOf p.2.2 p.2.1 s.req.vb k : Int) : ℚ) / 2 ^ p.2.1⌋) ∧
    (∀ p ∈ ([(.vmaddB, 8), (.vmaddH, 16), (.vmaddW, 32), (.vmaddD, 64)] : List (Instr × Nat)),
        Gives p.1 s p.2 fun k => laneU p.2 s.req.vc k + laneU p.2 s.req.va k * laneU p.2 s.req.vb k) ∧
    (∀ p ∈ ([(.vmsubB, 8), (.vmsubH, 16), (.vmsubW, 32), (.vmsubD, 64)] : List (Instr × Nat)),
        Gives p.1 s p.2 fun k => laneU p.2 s.req.vc k - laneU p.2 s.req.va k * laneU p.2 s.req.vb k)

/-- O47, tier 2 (R1604). For every legal unit, with x and y lane 2k (ev) or 2k+1 (od) of VA and of VB, each read with
the sign the mnemonic gives it: every vmulwev and vmulwod command completes with lane k, of width 2W, of VR the
full product x * y, every vmaddwev and vmaddwod command with lane k of VC plus, every vmsubwev and vmsubwod
command minus that product, modulo 2^(2W); XR is zero and nothing else changes. -/
def Obligations.WideningMultiplyLanes : Prop :=
  ∀ s : State, s.cfg.legal = true →
    (∀ p ∈ ([(.vmulwevHB, 8, .S, .S), (.vmulwevHuBu, 8, .U, .U), (.vmulwevHBuB, 8, .U, .S),
        (.vmulwevWH, 16, .S, .S), (.vmulwevWuHu, 16, .U, .U), (.vmulwevWHuH, 16, .U, .S),
        (.vmulwevDW, 32, .S, .S), (.vmulwevDuWu, 32, .U, .U), (.vmulwevDWuW, 32, .U, .S),
        (.vmulwevQD, 64, .S, .S), (.vmulwevQuDu, 64, .U, .U), (.vmulwevQDuD, 64, .U, .S)] : List (Instr × Nat × Sign × Sign)),
        Gives p.1 s (2 * p.2.1) fun k => laneOf p.2.2.1 p.2.1 s.req.va (2 * k) * laneOf p.2.2.2 p.2.1 s.req.vb (2 * k)) ∧
    (∀ p ∈ ([(.vmulwodHB, 8, .S, .S), (.vmulwodHuBu, 8, .U, .U), (.vmulwodHBuB, 8, .U, .S),
        (.vmulwodWH, 16, .S, .S), (.vmulwodWuHu, 16, .U, .U), (.vmulwodWHuH, 16, .U, .S),
        (.vmulwodDW, 32, .S, .S), (.vmulwodDuWu, 32, .U, .U), (.vmulwodDWuW, 32, .U, .S),
        (.vmulwodQD, 64, .S, .S), (.vmulwodQuDu, 64, .U, .U), (.vmulwodQDuD, 64, .U, .S)] : List (Instr × Nat × Sign × Sign)),
        Gives p.1 s (2 * p.2.1) fun k => laneOf p.2.2.1 p.2.1 s.req.va (2 * k + 1) * laneOf p.2.2.2 p.2.1 s.req.vb (2 * k + 1)) ∧
    (∀ p ∈ ([(.vmaddwevHB, 8, .S, .S), (.vmaddwevHuBu, 8, .U, .U), (.vmaddwevHBuB, 8, .U, .S),
        (.vmaddwevWH, 16, .S, .S), (.vmaddwevWuHu, 16, .U, .U), (.vmaddwevWHuH, 16, .U, .S),
        (.vmaddwevDW, 32, .S, .S), (.vmaddwevDuWu, 32, .U, .U), (.vmaddwevDWuW, 32, .U, .S),
        (.vmaddwevQD, 64, .S, .S), (.vmaddwevQuDu, 64, .U, .U), (.vmaddwevQDuD, 64, .U, .S)] : List (Instr × Nat × Sign × Sign)),
        Gives p.1 s (2 * p.2.1) fun k => laneU (2 * p.2.1) s.req.vc k + laneOf p.2.2.1 p.2.1 s.req.va (2 * k) * laneOf p.2.2.2 p.2.1 s.req.vb (2 * k)) ∧
    (∀ p ∈ ([(.vmaddwodHB, 8, .S, .S), (.vmaddwodHuBu, 8, .U, .U), (.vmaddwodHBuB, 8, .U, .S),
        (.vmaddwodWH, 16, .S, .S), (.vmaddwodWuHu, 16, .U, .U), (.vmaddwodWHuH, 16, .U, .S),
        (.vmaddwodDW, 32, .S, .S), (.vmaddwodDuWu, 32, .U, .U), (.vmaddwodDWuW, 32, .U, .S),
        (.vmaddwodQD, 64, .S, .S), (.vmaddwodQuDu, 64, .U, .U), (.vmaddwodQDuD, 64, .U, .S)] : List (Instr × Nat × Sign × Sign)),
        Gives p.1 s (2 * p.2.1) fun k => laneU (2 * p.2.1) s.req.vc k + laneOf p.2.2.1 p.2.1 s.req.va (2 * k + 1) * laneOf p.2.2.2 p.2.1 s.req.vb (2 * k + 1)) ∧
    (∀ p ∈ ([(.vmsubwevHB, 8, .S, .S), (.vmsubwevHuBu, 8, .U, .U), (.vmsubwevHBuB, 8, .U, .S),
        (.vmsubwevWH, 16, .S, .S), (.vmsubwevWuHu, 16, .U, .U), (.vmsubwevWHuH, 16, .U, .S),
        (.vmsubwevDW, 32, .S, .S), (.vmsubwevDuWu, 32, .U, .U), (.vmsubwevDWuW, 32, .U, .S),
        (.vmsubwevQD, 64, .S, .S), (.vmsubwevQuDu, 64, .U, .U), (.vmsubwevQDuD, 64, .U, .S)] : List (Instr × Nat × Sign × Sign)),
        Gives p.1 s (2 * p.2.1) fun k => laneU (2 * p.2.1) s.req.vc k - laneOf p.2.2.1 p.2.1 s.req.va (2 * k) * laneOf p.2.2.2 p.2.1 s.req.vb (2 * k)) ∧
    (∀ p ∈ ([(.vmsubwodHB, 8, .S, .S), (.vmsubwodHuBu, 8, .U, .U), (.vmsubwodHBuB, 8, .U, .S),
        (.vmsubwodWH, 16, .S, .S), (.vmsubwodWuHu, 16, .U, .U), (.vmsubwodWHuH, 16, .U, .S),
        (.vmsubwodDW, 32, .S, .S), (.vmsubwodDuWu, 32, .U, .U), (.vmsubwodDWuW, 32, .U, .S),
        (.vmsubwodQD, 64, .S, .S), (.vmsubwodQuDu, 64, .U, .U), (.vmsubwodQDuD, 64, .U, .S)] : List (Instr × Nat × Sign × Sign)),
        Gives p.1 s (2 * p.2.1) fun k => laneU (2 * p.2.1) s.req.vc k - laneOf p.2.2.1 p.2.1 s.req.va (2 * k + 1) * laneOf p.2.2.2 p.2.1 s.req.vb (2 * k + 1))

/-- O48, tier 2 (R1801; R1802). For every legal unit: vhaddw and vhsubw give the odd lane 2k+1 of VA plus or minus the
even lane 2k of VB; vaddwev and vsubwev combine the even lanes of both, vaddwod and vsubwod the odd lanes; at
double width, modulo 2^(2W), each operand read with its sign; each completes, XR is zero and nothing else changes. -/
def Obligations.WideningAddSubtractLanes : Prop :=
  ∀ s : State, s.cfg.legal = true →
    (∀ p ∈ ([(.vhaddwHB, 8, .S, .S), (.vhaddwHuBu, 8, .U, .U), (.vhaddwHBuB, 8, .U, .S), (.vhaddwWH, 16, .S, .S),
        (.vhaddwWuHu, 16, .U, .U), (.vhaddwWHuH, 16, .U, .S), (.vhaddwDW, 32, .S, .S),
        (.vhaddwDuWu, 32, .U, .U), (.vhaddwDWuW, 32, .U, .S), (.vhaddwQD, 64, .S, .S),
        (.vhaddwQuDu, 64, .U, .U), (.vhaddwQDuD, 64, .U, .S)] : List (Instr × Nat × Sign × Sign)),
        Gives p.1 s (2 * p.2.1) fun k => laneOf p.2.2.1 p.2.1 s.req.va (2 * k + 1) + laneOf p.2.2.2 p.2.1 s.req.vb (2 * k)) ∧
    (∀ p ∈ ([(.vhsubwHB, 8, .S, .S), (.vhsubwHuBu, 8, .U, .U), (.vhsubwHBuB, 8, .U, .S), (.vhsubwWH, 16, .S, .S),
        (.vhsubwWuHu, 16, .U, .U), (.vhsubwWHuH, 16, .U, .S), (.vhsubwDW, 32, .S, .S),
        (.vhsubwDuWu, 32, .U, .U), (.vhsubwDWuW, 32, .U, .S), (.vhsubwQD, 64, .S, .S),
        (.vhsubwQuDu, 64, .U, .U), (.vhsubwQDuD, 64, .U, .S)] : List (Instr × Nat × Sign × Sign)),
        Gives p.1 s (2 * p.2.1) fun k => laneOf p.2.2.1 p.2.1 s.req.va (2 * k + 1) - laneOf p.2.2.2 p.2.1 s.req.vb (2 * k)) ∧
    (∀ p ∈ ([(.vaddwevHB, 8, .S, .S), (.vaddwevHuBu, 8, .U, .U), (.vaddwevHBuB, 8, .U, .S),
        (.vaddwevWH, 16, .S, .S), (.vaddwevWuHu, 16, .U, .U), (.vaddwevWHuH, 16, .U, .S),
        (.vaddwevDW, 32, .S, .S), (.vaddwevDuWu, 32, .U, .U), (.vaddwevDWuW, 32, .U, .S),
        (.vaddwevQD, 64, .S, .S), (.vaddwevQuDu, 64, .U, .U), (.vaddwevQDuD, 64, .U, .S)] : List (Instr × Nat × Sign × Sign)),
        Gives p.1 s (2 * p.2.1) fun k => laneOf p.2.2.1 p.2.1 s.req.va (2 * k) + laneOf p.2.2.2 p.2.1 s.req.vb (2 * k)) ∧
    (∀ p ∈ ([(.vaddwodHB, 8, .S, .S), (.vaddwodHuBu, 8, .U, .U), (.vaddwodHBuB, 8, .U, .S),
        (.vaddwodWH, 16, .S, .S), (.vaddwodWuHu, 16, .U, .U), (.vaddwodWHuH, 16, .U, .S),
        (.vaddwodDW, 32, .S, .S), (.vaddwodDuWu, 32, .U, .U), (.vaddwodDWuW, 32, .U, .S),
        (.vaddwodQD, 64, .S, .S), (.vaddwodQuDu, 64, .U, .U), (.vaddwodQDuD, 64, .U, .S)] : List (Instr × Nat × Sign × Sign)),
        Gives p.1 s (2 * p.2.1) fun k => laneOf p.2.2.1 p.2.1 s.req.va (2 * k + 1) + laneOf p.2.2.2 p.2.1 s.req.vb (2 * k + 1)) ∧
    (∀ p ∈ ([(.vsubwevHB, 8, .S, .S), (.vsubwevHuBu, 8, .U, .U), (.vsubwevHBuB, 8, .U, .S),
        (.vsubwevWH, 16, .S, .S), (.vsubwevWuHu, 16, .U, .U), (.vsubwevWHuH, 16, .U, .S),
        (.vsubwevDW, 32, .S, .S), (.vsubwevDuWu, 32, .U, .U), (.vsubwevDWuW, 32, .U, .S),
        (.vsubwevQD, 64, .S, .S), (.vsubwevQuDu, 64, .U, .U), (.vsubwevQDuD, 64, .U, .S)] : List (Instr × Nat × Sign × Sign)),
        Gives p.1 s (2 * p.2.1) fun k => laneOf p.2.2.1 p.2.1 s.req.va (2 * k) - laneOf p.2.2.2 p.2.1 s.req.vb (2 * k)) ∧
    (∀ p ∈ ([(.vsubwodHB, 8, .S, .S), (.vsubwodHuBu, 8, .U, .U), (.vsubwodHBuB, 8, .U, .S),
        (.vsubwodWH, 16, .S, .S), (.vsubwodWuHu, 16, .U, .U), (.vsubwodWHuH, 16, .U, .S),
        (.vsubwodDW, 32, .S, .S), (.vsubwodDuWu, 32, .U, .U), (.vsubwodDWuW, 32, .U, .S),
        (.vsubwodQD, 64, .S, .S), (.vsubwodQuDu, 64, .U, .U), (.vsubwodQDuD, 64, .U, .S)] : List (Instr × Nat × Sign × Sign)),
        Gives p.1 s (2 * p.2.1) fun k => laneOf p.2.2.1 p.2.1 s.req.va (2 * k + 1) - laneOf p.2.2.2 p.2.1 s.req.vb (2 * k + 1))

/-- O49, tier 2 (R1803; R1804). For every legal unit, with n the number of source lanes of width 2W, result lane k of
width W comes from lane k of VA for k below n and from lane k - n of VB else: vnarrow keeps the low W bits,
vnarrows clamps the signed value to the signed range of W bits, vnarrowu the unsigned value to the unsigned range;
each completes, XR is zero and nothing else changes. -/
def Obligations.NarrowingLanes : Prop :=
  ∀ s : State, s.cfg.legal = true →
    (∀ p ∈ ([(.vnarrowBH, 8), (.vnarrowHW, 16), (.vnarrowWD, 32), (.vnarrowDQ, 64)] : List (Instr × Nat)),
        Gives p.1 s p.2 fun k => if k < s.cfg.vlen / (2 * p.2) then laneU (2 * p.2) s.req.va k
          else laneU (2 * p.2) s.req.vb (k - s.cfg.vlen / (2 * p.2))) ∧
    (∀ p ∈ ([(.vnarrowsBH, 8), (.vnarrowsHW, 16), (.vnarrowsWD, 32), (.vnarrowsDQ, 64)] : List (Instr × Nat)),
        GivesExactly p.1 s p.2 .S fun k => clamp .S p.2 (if k < s.cfg.vlen / (2 * p.2) then laneS (2 * p.2) s.req.va k
          else laneS (2 * p.2) s.req.vb (k - s.cfg.vlen / (2 * p.2)))) ∧
    (∀ p ∈ ([(.vnarrowuBuHu, 8), (.vnarrowuHuWu, 16), (.vnarrowuWuDu, 32), (.vnarrowuDuQu, 64)] : List (Instr × Nat)),
        GivesExactly p.1 s p.2 .U fun k => clamp .U p.2 (if k < s.cfg.vlen / (2 * p.2) then laneU (2 * p.2) s.req.va k
          else laneU (2 * p.2) s.req.vb (k - s.cfg.vlen / (2 * p.2))))

/-- O50, tier 2 (20_memory.md R110, R111; 47_tlb.md R2001 to R2003). In every state that meets the invariant, with the
ASID operand in range: if an entry matches (XB, vpn(XA)) and permits the access kind and the level, the lookup of
that kind completes with XR = PPN * 2^PS + XA mod 2^PS, which is below 2^PALEN, and changes no state. -/
def Obligations.LookupHitGivesPhysicalAddress : Prop :=
  ∀ (s : State) (acc : Access) (i : Nat) (e : TlbEntry), s.Inv → AsidOk s → s.tlb[i]? = some e →
    Matches e s.req.xb.toNat (vpn s s.req.xa) → Permits e acc s.req.priv →
    ∃ pa : Word, pa.toNat = e.ppn.toNat * 2 ^ s.cfg.ps + s.req.xa.toNat % 2 ^ s.cfg.ps ∧ pa.toNat < 2 ^ s.cfg.palen ∧
      Returns (lookupOf acc) s pa

/-- O51, tier 2 (R2011). In every state that meets the invariant: at U every TLB command but the lookups raises PRIV
with the command word, before any other check; at K an ASID operand out of range makes tlbfill, tlbinv.page and
tlbinv.asid raise RANGE with XB, and at either level the lookups; with it in range a descriptor with a nonzero
reserved bit makes tlbfill raise RANGE with XC; with it in range a lookup that no entry matches raises TLB_MISS
with XA, and one whose matching entry does not permit the access kind or the level raises TLB_PERM with XA. No
state changes. -/
def Obligations.TlbCommandsFaultInOrder : Prop :=
  ∀ s : State, s.Inv →
    (s.req.priv = .U → ∀ i ∈ kernelOnly, Raises i s 2 (s.req.cmd.setWidth 64)) ∧
    (s.req.priv = .K → ¬AsidOk s → ∀ i ∈ ([.tlbfill, .tlbinvPage, .tlbinvAsid] : List Instr), Raises i s 4 s.req.xb) ∧
    (s.req.priv = .K → AsidOk s → ¬DescOk s → Raises .tlbfill s 4 s.req.xc) ∧
    ∀ acc : Access,
      (¬AsidOk s → Raises (lookupOf acc) s 4 s.req.xb) ∧
      (AsidOk s → (∀ e ∈ s.tlb, ¬Matches e s.req.xb.toNat (vpn s s.req.xa)) → Raises (lookupOf acc) s 5 s.req.xa) ∧
      ∀ (i : Nat) (e : TlbEntry), AsidOk s → s.tlb[i]? = some e → Matches e s.req.xb.toNat (vpn s s.req.xa) →
        ¬Permits e acc s.req.priv → Raises (lookupOf acc) s 6 s.req.xa

/-- O52, tier 2 (R108). At K, in a state that meets the invariant with a legal ASID and descriptor, tlbfill completes:
some entry n has the operands' fields; the slot k, returned in XR, is the lowest of the conflict set of n if there
is one, else the lowest invalid slot, else RR, and only then does RR advance by one modulo NTLB; slot k holds n,
every other entry of the conflict set has V cleared, every other entry is unchanged, and FCSR and ASID are too. -/
def Obligations.FillPlacesEntry : Prop :=
  ∀ s : State, s.Inv → s.req.priv = .K → AsidOk s → DescOk s →
    ∃ (t : State) (n : TlbEntry) (k : Nat), exec .tlbfill s = .next t ∧ Answered s t (ok 0 (BitVec.ofNat 64 k)) ∧ IsFilled s n ∧
      k < s.cfg.ntlb ∧ t.fcsr = s.fcsr ∧ t.asid = s.asid ∧ t.tlb.length = s.tlb.length ∧ t.tlb[k]? = some n ∧
      (∀ (j : Nat) (e : TlbEntry), j ≠ k → s.tlb[j]? = some e →
        (Conflicts e n → t.tlb[j]? = some { e with v := false }) ∧ (¬Conflicts e n → t.tlb[j]? = some e)) ∧
      ((∃ e, s.tlb[k]? = some e ∧ Conflicts e n) ∧ (∀ j < k, ∀ e, s.tlb[j]? = some e → ¬Conflicts e n) ∧ t.rr = s.rr ∨
        (∀ e ∈ s.tlb, ¬Conflicts e n) ∧ (∃ e, s.tlb[k]? = some e ∧ e.v = false) ∧
          (∀ j < k, ∀ e, s.tlb[j]? = some e → e.v = true) ∧ t.rr = s.rr ∨
        (∀ e ∈ s.tlb, ¬Conflicts e n ∧ e.v = true) ∧ k = s.rr ∧ t.rr = (s.rr + 1) % s.cfg.ntlb)

/-- O53, tier 2 (47_tlb.md R2013; 47_tlb.md R2004; 20_memory.md R110). From every state that meets the invariant,
after a tlbfill that completes, any later request q whose XB is the filled ASID, or any XB in range if the entry
is global, whose XA is on the same page, and whose access the descriptor permits at its level, makes the lookup of
that kind complete with XR = (descriptor's PPN) * 2^PS + XA mod 2^PS. -/
def Obligations.FillThenLookupFindsMapping : Prop :=
  ∀ (s t : State) (q : Request) (acc : Access), s.Inv → exec .tlbfill s = .next t → t.resp.status = .OK →
    (q.xb = s.req.xb ∨ s.req.xc.getLsbD 4 = true ∧ q.xb.toNat < 2 ^ s.cfg.asidBits) → vpn s q.xa = vpn s s.req.xa →
    s.req.xc.getLsbD (match acc with | .R => 0 | .W => 1 | .X => 2) = true → (q.priv = .U → s.req.xc.getLsbD 3 = true) →
    ∃ pa : Word, pa.toNat = s.req.xc.toNat / 2 ^ s.cfg.ps * 2 ^ s.cfg.ps + q.xa.toNat % 2 ^ s.cfg.ps ∧
      Returns (lookupOf acc) { t with req := q } pa

/-- O54, tier 2 (R2005). In every state that meets the invariant tlbprobe raises PRIV with the command word at U, and
at K it completes and changes no state: if the entry at index i matches the ASID CSR and vpn(XA), XR is i,
whatever the entry permits; if none matches, XR is 0x8000000000000000. -/
def Obligations.ProbeSearchesWithAsidCsr : Prop :=
  ∀ s : State, s.Inv →
    (s.req.priv = .U → Raises .tlbprobe s 2 (s.req.cmd.setWidth 64)) ∧
    (s.req.priv = .K → ∀ (i : Nat) (e : TlbEntry), s.tlb[i]? = some e → Matches e s.asid.toNat (vpn s s.req.xa) →
      Returns .tlbprobe s (BitVec.ofNat 64 i)) ∧
    (s.req.priv = .K → (∀ e ∈ s.tlb, ¬Matches e s.asid.toNat (vpn s s.req.xa)) → Returns .tlbprobe s 0x8000000000000000)

/-- O55, tier 2 (47_tlb.md R2006 to R2009). At K, in every state that meets the invariant and with the ASID operand in
range where one is read: tlbinv.page clears V of exactly the entries that match (XB, vpn(XA)), tlbinv.asid of the
valid entries that are not global and have ASID XB, tlbinv.global of the valid global ones, tlbinv.all of every
entry; the other fields and the other entries, RR, FCSR and ASID stay, and XR is 0. -/
def Obligations.InvalidationsRemoveExactlyTheirEntries : Prop :=
  ∀ s : State, s.Inv → s.req.priv = .K →
    (AsidOk s → Invalidates .tlbinvPage s fun e => Matches e s.req.xb.toNat (vpn s s.req.xa)) ∧
    (AsidOk s → Invalidates .tlbinvAsid s fun e => e.v = true ∧ e.g = false ∧ e.asid.toNat = s.req.xb.toNat) ∧
    (Invalidates .tlbinvGlobal s fun e => e.v = true ∧ e.g = true) ∧
    Invalidates .tlbinvAll s fun _ => True

/-- O56, tier 2 (47_tlb.md R2013; 20_memory.md R118). From a state that meets the invariant, at K, after any of the
four invalidations completes: a lookup with an ASID in range whose matching entries, if any, are among those the
invalidation removes raises TLB_MISS, and a tlbprobe whose matching entries are misses. So after tlbinv.page every
lookup of the same ASID and page raises TLB_MISS, and tlbprobe of the page with that ASID in the ASID CSR misses;
after tlbinv.asid a lookup or probe with that ASID finds only global entries; after tlbinv.all every lookup with
an ASID in range raises TLB_MISS, and tlbprobe misses; after tlbinv.global no valid entry is global. -/
def Obligations.InvalidatedPageMisses : Prop :=
  ∀ (s t : State) (q : Request) (acc : Access), s.Inv → s.req.priv = .K →
    (∀ i ∈ ([.tlbinvPage, .tlbinvAsid, .tlbinvGlobal, .tlbinvAll] : List Instr), exec i s = .next t → t.resp.status = .OK →
      (q.xb.toNat < 2 ^ s.cfg.asidBits → (∀ e ∈ s.tlb, Matches e q.xb.toNat (vpn s q.xa) → Removes i s e) →
        Raises (lookupOf acc) { t with req := q } 5 q.xa) ∧
      (q.priv = .K → (∀ e ∈ s.tlb, Matches e s.asid.toNat (vpn s q.xa) → Removes i s e) →
        Returns .tlbprobe { t with req := q } 0x8000000000000000)) ∧
    (exec .tlbinvPage s = .next t → t.resp.status = .OK → vpn s q.xa = vpn s s.req.xa →
      (q.xb = s.req.xb → Raises (lookupOf acc) { t with req := q } 5 q.xa) ∧
      (s.asid.toNat = s.req.xb.toNat → q.priv = .K → Returns .tlbprobe { t with req := q } 0x8000000000000000)) ∧
    (exec .tlbinvAsid s = .next t → t.resp.status = .OK →
      ∀ e ∈ t.tlb, Matches e s.req.xb.toNat (vpn s q.xa) → e.g = true) ∧
    (exec .tlbinvAll s = .next t → q.xb.toNat < 2 ^ s.cfg.asidBits → Raises (lookupOf acc) { t with req := q } 5 q.xa) ∧
    (exec .tlbinvAll s = .next t → q.priv = .K → Returns .tlbprobe { t with req := q } 0x8000000000000000) ∧
    (exec .tlbinvGlobal s = .next t → ∀ e ∈ t.tlb, e.v = true → e.g = false)

/-- O57, tier 2 (R112; 20_memory.md R107). For every state and every lookup with an ASID operand in range: change in
any way the non-global entries of other ASIDs, keeping each at its index non-global with an ASID other than XB,
and the lookup gives the same response. -/
def Obligations.LookupIgnoresForeignEntries : Prop :=
  ∀ (s : State) (acc : Access) (tlb : List TlbEntry), s.cfg.legal = true → AsidOk s → tlb.length = s.tlb.length →
    (∀ (k : Nat) (e f : TlbEntry), s.tlb[k]? = some e → tlb[k]? = some f →
      e = f ∨ e.g = false ∧ e.asid.toNat ≠ s.req.xb.toNat ∧ f.g = false ∧ f.asid.toNat ≠ s.req.xb.toNat) →
    ∃ t u : State, exec (lookupOf acc) s = .next t ∧ exec (lookupOf acc) { s with tlb := tlb } = .next u ∧ t.resp = u.resp

/-- O58, tier 2 (20_memory.md R104). For every TLB command and legal unit, two requests that differ only in bits of XA
at and above VALEN leave the same FCSR, ASID, TLB and RR, and give the same response but for the fault value of a
lookup that misses or is refused, TLB_MISS or TLB_PERM, which is XA of each request itself. -/
def Obligations.HighAddressBitsAreIgnored : Prop :=
  ∀ (i : Instr) (s t u : State) (xa : Word), Tlb i → s.cfg.legal = true →
    (∀ k < s.cfg.valen, xa.getLsbD k = s.req.xa.getLsbD k) →
    exec i s = .next t → exec i { s with req := { s.req with xa := xa } } = .next u →
    SameUnit t u ∧ t.resp.status = u.resp.status ∧ t.resp.xr = u.resp.xr ∧ t.resp.vr = u.resp.vr ∧
      t.resp.fcode = u.resp.fcode ∧ t.resp.fpc = u.resp.fpc ∧
      (t.resp.fcode ≠ 5 → t.resp.fcode ≠ 6 → t.resp.fvalue = u.resp.fvalue) ∧
      (t.resp.fcode = 5 ∨ t.resp.fcode = 6 → t.resp.fvalue = s.req.xa ∧ u.resp.fvalue = xa)

/-- O59, tier 1 (R2100). csrrd with IMM 0 completes at both levels with XR the zero-extended FCSR; with IMM 1 it
completes at K with XR the zero-extended ASID and raises PRIV with IMM at U; with any other IMM it raises RANGE
with IMM at both levels. No state changes in any case. -/
def Obligations.CsrReadReturnsRegister : Prop :=
  ∀ s : State,
    (s.req.imm = 0 → Returns .csrrd s (BitVec.ofNat 64 s.fcsr.toNat)) ∧
    (s.req.imm = 1 → s.req.priv = .K → Returns .csrrd s (BitVec.ofNat 64 s.asid.toNat)) ∧
    (s.req.imm = 1 → s.req.priv = .U → Raises .csrrd s 2 s.req.imm) ∧
    (s.req.imm ≠ 0 → s.req.imm ≠ 1 → Raises .csrrd s 4 s.req.imm)

/-- O60, tier 1 (R2101). csrwr of FCSR with a value that has no bit outside 0x1F1F031F completes at both levels,
writes the value and returns the old FCSR; of ASID at K with a value below 2^ASIDBITS it writes it and returns the
old ASID; the number is checked before the level and the level before the value, with RANGE (IMM), PRIV (IMM) and
RANGE (XA); a failed check changes nothing, and no write changes anything else. -/
def Obligations.CsrWriteChecksThenWrites : Prop :=
  ∀ s : State, s.cfg.legal = true →
    (s.req.imm = 0 → s.req.xa &&& ~~~(0x1F1F031F : Word) = 0 →
      ∃ t, exec .csrwr s = .next t ∧ Answered s t (ok 0 (BitVec.ofNat 64 s.fcsr.toNat)) ∧
        t.fcsr.toNat = s.req.xa.toNat ∧ t.asid = s.asid ∧ t.tlb = s.tlb ∧ t.rr = s.rr) ∧
    (s.req.imm = 0 → s.req.xa &&& ~~~(0x1F1F031F : Word) ≠ 0 → Raises .csrwr s 4 s.req.xa) ∧
    (s.req.imm = 1 → s.req.priv = .K → s.req.xa.toNat < 2 ^ s.cfg.asidBits →
      ∃ t, exec .csrwr s = .next t ∧ Answered s t (ok 0 (BitVec.ofNat 64 s.asid.toNat)) ∧
        t.asid.toNat = s.req.xa.toNat ∧ t.fcsr = s.fcsr ∧ t.tlb = s.tlb ∧ t.rr = s.rr) ∧
    (s.req.imm = 1 → s.req.priv = .K → 2 ^ s.cfg.asidBits ≤ s.req.xa.toNat → Raises .csrwr s 4 s.req.xa) ∧
    (s.req.imm = 1 → s.req.priv = .U → Raises .csrwr s 2 s.req.imm) ∧
    (s.req.imm ≠ 0 → s.req.imm ≠ 1 → Raises .csrwr s 4 s.req.imm)
end

