-- ==== Sys2Proof/Laws/State.lean ====
section
/-! SUPPORT. What every update of the state leaves in every field, one lemma each, so that no proof unfolds an update. -/

namespace Sys2Proof.Machine

@[simp] theorem respond_cfg (s : State) (r : Response) : (respond s r).cfg = s.cfg := rfl
@[simp] theorem respond_fcsr (s : State) (r : Response) : (respond s r).fcsr = s.fcsr := rfl
@[simp] theorem respond_asid (s : State) (r : Response) : (respond s r).asid = s.asid := rfl
@[simp] theorem respond_tlb (s : State) (r : Response) : (respond s r).tlb = s.tlb := rfl
@[simp] theorem respond_rr (s : State) (r : Response) : (respond s r).rr = s.rr := rfl
@[simp] theorem respond_req (s : State) (r : Response) : (respond s r).req = s.req := rfl
@[simp] theorem respond_busy (s : State) (r : Response) : (respond s r).busy = 0 := rfl
@[simp] theorem respond_respValid (s : State) (r : Response) : (respond s r).respValid = true := rfl
@[simp] theorem respond_resp (s : State) (r : Response) : (respond s r).resp = r := rfl
@[simp] theorem respond_responses (s : State) (r : Response) : (respond s r).responses = r :: s.responses := rfl
@[simp] theorem respond_inputs (s : State) (r : Response) : (respond s r).inputs = s.inputs := rfl
@[simp] theorem respond_lats (s : State) (r : Response) : (respond s r).lats = s.lats := rfl

@[simp] theorem respondScalar_cfg (s : State) (x : Word) : (respondScalar s x).cfg = s.cfg := rfl
@[simp] theorem respondScalar_fcsr (s : State) (x : Word) : (respondScalar s x).fcsr = s.fcsr := rfl
@[simp] theorem respondScalar_asid (s : State) (x : Word) : (respondScalar s x).asid = s.asid := rfl
@[simp] theorem respondScalar_tlb (s : State) (x : Word) : (respondScalar s x).tlb = s.tlb := rfl
@[simp] theorem respondScalar_rr (s : State) (x : Word) : (respondScalar s x).rr = s.rr := rfl
@[simp] theorem respondScalar_req (s : State) (x : Word) : (respondScalar s x).req = s.req := rfl
@[simp] theorem respondScalar_busy (s : State) (x : Word) : (respondScalar s x).busy = 0 := rfl
@[simp] theorem respondScalar_respValid (s : State) (x : Word) : (respondScalar s x).respValid = true := rfl
@[simp] theorem respondScalar_resp (s : State) (x : Word) : (respondScalar s x).resp = okResponse 0 x := rfl
@[simp] theorem respondScalar_responses (s : State) (x : Word) : (respondScalar s x).responses = okResponse 0 x :: s.responses := rfl
@[simp] theorem respondScalar_inputs (s : State) (x : Word) : (respondScalar s x).inputs = s.inputs := rfl
@[simp] theorem respondScalar_lats (s : State) (x : Word) : (respondScalar s x).lats = s.lats := rfl

@[simp] theorem respondVec_cfg (s : State) (v : Vec) : (respondVec s v).cfg = s.cfg := rfl
@[simp] theorem respondVec_fcsr (s : State) (v : Vec) : (respondVec s v).fcsr = s.fcsr := rfl
@[simp] theorem respondVec_asid (s : State) (v : Vec) : (respondVec s v).asid = s.asid := rfl
@[simp] theorem respondVec_tlb (s : State) (v : Vec) : (respondVec s v).tlb = s.tlb := rfl
@[simp] theorem respondVec_rr (s : State) (v : Vec) : (respondVec s v).rr = s.rr := rfl
@[simp] theorem respondVec_req (s : State) (v : Vec) : (respondVec s v).req = s.req := rfl
@[simp] theorem respondVec_busy (s : State) (v : Vec) : (respondVec s v).busy = 0 := rfl
@[simp] theorem respondVec_respValid (s : State) (v : Vec) : (respondVec s v).respValid = true := rfl
@[simp] theorem respondVec_resp (s : State) (v : Vec) : (respondVec s v).resp = okResponse v 0 := rfl
@[simp] theorem respondVec_responses (s : State) (v : Vec) : (respondVec s v).responses = okResponse v 0 :: s.responses := rfl
@[simp] theorem respondVec_inputs (s : State) (v : Vec) : (respondVec s v).inputs = s.inputs := rfl
@[simp] theorem respondVec_lats (s : State) (v : Vec) : (respondVec s v).lats = s.lats := rfl

@[simp] theorem raise_cfg (s : State) (e : FaultCode) (v : Word) : (raise s e v).cfg = s.cfg := rfl
@[simp] theorem raise_fcsr (s : State) (e : FaultCode) (v : Word) : (raise s e v).fcsr = s.fcsr := rfl
@[simp] theorem raise_asid (s : State) (e : FaultCode) (v : Word) : (raise s e v).asid = s.asid := rfl
@[simp] theorem raise_tlb (s : State) (e : FaultCode) (v : Word) : (raise s e v).tlb = s.tlb := rfl
@[simp] theorem raise_rr (s : State) (e : FaultCode) (v : Word) : (raise s e v).rr = s.rr := rfl
@[simp] theorem raise_req (s : State) (e : FaultCode) (v : Word) : (raise s e v).req = s.req := rfl
@[simp] theorem raise_busy (s : State) (e : FaultCode) (v : Word) : (raise s e v).busy = 0 := rfl
@[simp] theorem raise_respValid (s : State) (e : FaultCode) (v : Word) : (raise s e v).respValid = true := rfl
@[simp] theorem raise_resp (s : State) (e : FaultCode) (v : Word) : (raise s e v).resp = faultResponse e v s.req.pc := rfl
@[simp] theorem raise_responses (s : State) (e : FaultCode) (v : Word) : (raise s e v).responses = faultResponse e v s.req.pc :: s.responses := rfl
@[simp] theorem raise_inputs (s : State) (e : FaultCode) (v : Word) : (raise s e v).inputs = s.inputs := rfl
@[simp] theorem raise_lats (s : State) (e : FaultCode) (v : Word) : (raise s e v).lats = s.lats := rfl

@[simp] theorem accept_cfg (s : State) (r : Request) : (accept s r).cfg = s.cfg := rfl
@[simp] theorem accept_fcsr (s : State) (r : Request) : (accept s r).fcsr = s.fcsr := rfl
@[simp] theorem accept_asid (s : State) (r : Request) : (accept s r).asid = s.asid := rfl
@[simp] theorem accept_tlb (s : State) (r : Request) : (accept s r).tlb = s.tlb := rfl
@[simp] theorem accept_rr (s : State) (r : Request) : (accept s r).rr = s.rr := rfl
@[simp] theorem accept_req (s : State) (r : Request) : (accept s r).req = r := rfl
@[simp] theorem accept_busy (s : State) (r : Request) : (accept s r).busy = s.nextLat := rfl
@[simp] theorem accept_respValid (s : State) (r : Request) : (accept s r).respValid = false := rfl
@[simp] theorem accept_resp (s : State) (r : Request) : (accept s r).resp = s.resp := rfl
@[simp] theorem accept_responses (s : State) (r : Request) : (accept s r).responses = s.responses := rfl
@[simp] theorem accept_inputs (s : State) (r : Request) : (accept s r).inputs = s.inputs := rfl
@[simp] theorem accept_lats (s : State) (r : Request) : (accept s r).lats = s.lats.tail := rfl

@[simp] theorem wait_cfg (s : State) : (wait s).cfg = s.cfg := rfl
@[simp] theorem wait_fcsr (s : State) : (wait s).fcsr = s.fcsr := rfl
@[simp] theorem wait_asid (s : State) : (wait s).asid = s.asid := rfl
@[simp] theorem wait_tlb (s : State) : (wait s).tlb = s.tlb := rfl
@[simp] theorem wait_rr (s : State) : (wait s).rr = s.rr := rfl
@[simp] theorem wait_req (s : State) : (wait s).req = s.req := rfl
@[simp] theorem wait_busy (s : State) : (wait s).busy = s.busy - 1 := rfl
@[simp] theorem wait_respValid (s : State) : (wait s).respValid = false := rfl
@[simp] theorem wait_resp (s : State) : (wait s).resp = s.resp := rfl
@[simp] theorem wait_responses (s : State) : (wait s).responses = s.responses := rfl
@[simp] theorem wait_inputs (s : State) : (wait s).inputs = s.inputs := rfl
@[simp] theorem wait_lats (s : State) : (wait s).lats = s.lats := rfl

@[simp] theorem idle_cfg (s : State) : (idle s).cfg = s.cfg := rfl
@[simp] theorem idle_fcsr (s : State) : (idle s).fcsr = s.fcsr := rfl
@[simp] theorem idle_asid (s : State) : (idle s).asid = s.asid := rfl
@[simp] theorem idle_tlb (s : State) : (idle s).tlb = s.tlb := rfl
@[simp] theorem idle_rr (s : State) : (idle s).rr = s.rr := rfl
@[simp] theorem idle_req (s : State) : (idle s).req = s.req := rfl
@[simp] theorem idle_busy (s : State) : (idle s).busy = s.busy := rfl
@[simp] theorem idle_respValid (s : State) : (idle s).respValid = false := rfl
@[simp] theorem idle_resp (s : State) : (idle s).resp = s.resp := rfl
@[simp] theorem idle_responses (s : State) : (idle s).responses = s.responses := rfl
@[simp] theorem idle_inputs (s : State) : (idle s).inputs = s.inputs := rfl
@[simp] theorem idle_lats (s : State) : (idle s).lats = s.lats := rfl

@[simp] theorem applyReset_cfg (s : State) : (applyReset s).cfg = s.cfg := rfl
@[simp] theorem applyReset_fcsr (s : State) : (applyReset s).fcsr = 0 := rfl
@[simp] theorem applyReset_asid (s : State) : (applyReset s).asid = 0 := rfl
@[simp] theorem applyReset_tlb (s : State) : (applyReset s).tlb = List.replicate s.cfg.ntlb TlbEntry.invalid := rfl
@[simp] theorem applyReset_rr (s : State) : (applyReset s).rr = 0 := rfl
@[simp] theorem applyReset_req (s : State) : (applyReset s).req = Request.zero := rfl
@[simp] theorem applyReset_busy (s : State) : (applyReset s).busy = 0 := rfl
@[simp] theorem applyReset_respValid (s : State) : (applyReset s).respValid = false := rfl
@[simp] theorem applyReset_resp (s : State) : (applyReset s).resp = Response.zero := rfl
@[simp] theorem applyReset_responses (s : State) : (applyReset s).responses = s.responses := rfl
@[simp] theorem applyReset_inputs (s : State) : (applyReset s).inputs = s.inputs := rfl
@[simp] theorem applyReset_lats (s : State) : (applyReset s).lats = s.lats := rfl

@[simp] theorem resetWith_cfg (c : Params) : (State.resetWith c).cfg = c := rfl
@[simp] theorem resetWith_fcsr (c : Params) : (State.resetWith c).fcsr = 0 := rfl
@[simp] theorem resetWith_asid (c : Params) : (State.resetWith c).asid = 0 := rfl
@[simp] theorem resetWith_tlb (c : Params) : (State.resetWith c).tlb = List.replicate c.ntlb TlbEntry.invalid := rfl
@[simp] theorem resetWith_rr (c : Params) : (State.resetWith c).rr = 0 := rfl
@[simp] theorem resetWith_req (c : Params) : (State.resetWith c).req = Request.zero := rfl
@[simp] theorem resetWith_busy (c : Params) : (State.resetWith c).busy = 0 := rfl
@[simp] theorem resetWith_respValid (c : Params) : (State.resetWith c).respValid = false := rfl
@[simp] theorem resetWith_resp (c : Params) : (State.resetWith c).resp = Response.zero := rfl
@[simp] theorem resetWith_responses (c : Params) : (State.resetWith c).responses = [] := rfl
@[simp] theorem resetWith_inputs (c : Params) : (State.resetWith c).inputs = [] := rfl
@[simp] theorem resetWith_lats (c : Params) : (State.resetWith c).lats = [] := rfl

@[simp] theorem placeRequest_cfg (s : State) (r : Request) : (placeRequest s r).cfg = s.cfg := rfl
@[simp] theorem placeRequest_fcsr (s : State) (r : Request) : (placeRequest s r).fcsr = s.fcsr := rfl
@[simp] theorem placeRequest_asid (s : State) (r : Request) : (placeRequest s r).asid = s.asid := rfl
@[simp] theorem placeRequest_tlb (s : State) (r : Request) : (placeRequest s r).tlb = s.tlb := rfl
@[simp] theorem placeRequest_rr (s : State) (r : Request) : (placeRequest s r).rr = s.rr := rfl
@[simp] theorem placeRequest_respValid (s : State) (r : Request) : (placeRequest s r).respValid = s.respValid := rfl
@[simp] theorem placeRequest_resp (s : State) (r : Request) : (placeRequest s r).resp = s.resp := rfl
@[simp] theorem placeRequest_responses (s : State) (r : Request) : (placeRequest s r).responses = s.responses := rfl
@[simp] theorem placeRequest_lats (s : State) (r : Request) : (placeRequest s r).lats = s.lats := rfl
@[simp] theorem placeRequest_req (s : State) (r : Request) : (placeRequest s r).req = r := rfl
@[simp] theorem placeRequest_busy (s : State) (r : Request) : (placeRequest s r).busy = 1 := rfl

/-- No reset in the cycle after a request is placed. -/
theorem placeRequest_nextCycle_rst (s : State) (r : Request) : (placeRequest s r).nextCycle.rst = false := by
  cases h : s.inputs <;> simp [placeRequest, State.nextCycle, h]

@[simp] theorem okResponse_status (v : Vec) (x : Word) : (okResponse v x).status = .OK := rfl
@[simp] theorem okResponse_vr (v : Vec) (x : Word) : (okResponse v x).vr = v := rfl
@[simp] theorem okResponse_xr (v : Vec) (x : Word) : (okResponse v x).xr = x := rfl
@[simp] theorem okResponse_fcode (v : Vec) (x : Word) : (okResponse v x).fcode = 0 := rfl
@[simp] theorem okResponse_fvalue (v : Vec) (x : Word) : (okResponse v x).fvalue = 0 := rfl
@[simp] theorem okResponse_fpc (v : Vec) (x : Word) : (okResponse v x).fpc = 0 := rfl
@[simp] theorem faultResponse_status (e : FaultCode) (v pc : Word) : (faultResponse e v pc).status = .FAULT := rfl
@[simp] theorem faultResponse_vr (e : FaultCode) (v pc : Word) : (faultResponse e v pc).vr = 0 := rfl
@[simp] theorem faultResponse_xr (e : FaultCode) (v pc : Word) : (faultResponse e v pc).xr = 0 := rfl
@[simp] theorem faultResponse_fcode (e : FaultCode) (v pc : Word) : (faultResponse e v pc).fcode = e.code := rfl
@[simp] theorem faultResponse_fvalue (e : FaultCode) (v pc : Word) : (faultResponse e v pc).fvalue = v := rfl
@[simp] theorem faultResponse_fpc (e : FaultCode) (v pc : Word) : (faultResponse e v pc).fpc = pc := rfl

end Sys2Proof.Machine
end

