-- ==== Sys2Proof/Laws/Cycle.lean ====
section
/-! SUPPORT. Everything one clock cycle can do, and everything a command of each unit can answer. -/

namespace Sys2Proof.Machine

/-- The state with the inputs of this cycle taken. -/
def State.popCycle (s : State) : State := { s with inputs := s.inputs.tail }

/-- Every outcome of a step (10_state.md R60, 70_reset_and_hazards.md R2300). -/
theorem step_cases (s : State) :
    (s.cfg.legal = false ∧ step s = .fault .illegalParams) ∨
    (s.cfg.legal = true ∧ s.nextCycle.rst = true ∧ step s = .next (applyReset s.popCycle)) ∨
    (s.cfg.legal = true ∧ s.nextCycle.rst = false ∧ s.busy = 0 ∧
      ((∃ r, s.nextCycle.req = some r ∧ step s = .next (accept s.popCycle r)) ∨
        (s.nextCycle.req = none ∧ step s = .next (idle s.popCycle)))) ∨
    (s.cfg.legal = true ∧ s.nextCycle.rst = false ∧ s.busy = 1 ∧ step s = answer s.popCycle) ∨
    (s.cfg.legal = true ∧ s.nextCycle.rst = false ∧ 2 ≤ s.busy ∧ step s = .next (wait s.popCycle)) := by
  unfold step clockCycle cycleWith State.popCycle
  by_cases hl : s.cfg.legal = true
  · by_cases hr : s.nextCycle.rst = true
    · simp [hl, hr]
    · simp only [Bool.not_eq_true] at hr
      rcases Nat.lt_trichotomy s.busy 1 with h | h | h
      · have h0 : s.busy = 0 := by omega
        cases hq : s.nextCycle.req <;> simp [hl, hr, h0]
      · simp [hl, hr, h]
      · have h0 : s.busy ≠ 0 := by omega
        have h1 : s.busy ≠ 1 := by omega
        simp [hl, hr, h0, h1]
        omega
  · simp [hl]

/-- A command word that decodes is answered by its meaning. -/
theorem answer_ok (s : State) (i : Instr) (h : decode s.req.cmd = .ok i) : answer s = exec i s := by
  simp [answer, h]

/-- Any other command word is answered by ILLEGAL_OP (30_encoding.md R159). -/
theorem answer_error (s : State) (e : DecodeError) (h : decode s.req.cmd = .error e) :
    answer s = .next (raise s .illegalOp (s.req.cmd.setWidth 64)) := by
  simp [answer, h]

set_option maxHeartbeats 1000000 in
/-- Every FPU command ends with FPCOMMIT (40_fp_arith.md R1010). -/
theorem exec_fpu (i : Instr) (s : State) (h : i.fields.unit = 1) : ∃ r, exec i s = fpCommit s r := by
  cases i <;> first | exact ⟨_, rfl⟩ | exact absurd h (by decide)

set_option maxHeartbeats 1000000 in
/-- Every SIMD command writes `VR`, or raises ILLEGAL_IMM (42_simd_lanewise.md R1400, 43_simd_minmax.md R1501). -/
theorem exec_simd (i : Instr) (s : State) (h : i.fields.unit = 2) :
    (∃ v, exec i s = .next (respondVec s v)) ∨ exec i s = .next (raise s .illegalImm s.req.imm) := by
  cases i <;> first
    | exact absurd h (by decide)
    | exact .inl ⟨_, rfl⟩
    | (simp only [exec, execVminiB, execVminiBu, execVminiH, execVminiHu, execVminiW, execVminiWu, execVminiD,
        execVminiDu, execVmaxiB, execVmaxiBu, execVmaxiH, execVmaxiHu, execVmaxiW, execVmaxiWu, execVmaxiD,
        execVmaxiDu, lanewiseImm]
       split
       · exact .inl ⟨_, rfl⟩
       · exact .inr rfl)

/-- The unit of a command is 1 to 4 (30_encoding.md R151). -/
theorem unit_cases (i : Instr) : i.fields.unit = 1 ∨ i.fields.unit = 2 ∨ i.fields.unit = 3 ∨ i.fields.unit = 4 := by
  cases i <;> decide

end Sys2Proof.Machine
end

