-- ==== Sys2Proof/Laws/Flags.lean ====
section
/-! SUPPORT. What the two FCSR updates leave in every field, and what FPCOMMIT answers. -/

namespace Sys2Proof.Machine

/-- A 5-bit index. -/
theorem lt_five_cases (i : Nat) (h : i < 5) : i = 0 ∨ i = 1 ∨ i = 2 ∨ i = 3 ∨ i = 4 := by omega

/-- Every bit of FCSR after CAUSE is written. -/
theorem withCause_getLsbD (f : BitVec 32) (e : ExcSet) (i : Nat) (h : i < 32) :
    (withCause f e).getLsbD i = if 24 ≤ i ∧ i < 29 then e.getLsbD (i - 24) else f.getLsbD i := by
  have hm : (0xE0FFFFFF : BitVec 32).getLsbD i = decide (¬(24 ≤ i ∧ i < 29)) := by interval_cases i <;> decide
  have he : 29 ≤ i → e.getLsbD (i - 24) = false := fun h1 => BitVec.getLsbD_of_ge _ _ (by omega)
  unfold withCause
  rw [BitVec.getLsbD_or, BitVec.getLsbD_and, hm, BitVec.getLsbD_shiftLeft, BitVec.getLsbD_setWidth]
  by_cases h1 : i < 24
  · have h2 : ¬(24 ≤ i ∧ i < 29) := by omega
    rw [if_neg h2]
    simp only [h1, h2, not_false_eq_true, decide_true, Bool.not_true, Bool.and_true, Bool.and_false, Bool.false_and,
      Bool.or_false]
  · by_cases h2 : i < 29
    · have h3 : 24 ≤ i ∧ i < 29 := by omega
      have h4 : i - 24 < 32 := by omega
      rw [if_pos h3]
      simp only [h, h1, h3, h4, and_self, not_true_eq_false, decide_true, decide_false, Bool.not_false,
        Bool.and_true, Bool.true_and, Bool.and_false, Bool.false_or]
    · have h3 : ¬(24 ≤ i ∧ i < 29) := by omega
      rw [if_neg h3, he (by omega)]
      simp only [h3, not_false_eq_true, decide_true, Bool.and_true, Bool.and_false, Bool.or_false]

/-- Every bit of FCSR after a set is joined to FLAGS. -/
theorem withFlags_getLsbD (f : BitVec 32) (e : ExcSet) (i : Nat) (h : i < 32) :
    (withFlags f e).getLsbD i = (f.getLsbD i || (decide (16 ≤ i ∧ i < 21) && e.getLsbD (i - 16))) := by
  have he : 21 ≤ i → e.getLsbD (i - 16) = false := fun h1 => BitVec.getLsbD_of_ge _ _ (by omega)
  unfold withFlags
  rw [BitVec.getLsbD_or, BitVec.getLsbD_shiftLeft, BitVec.getLsbD_setWidth]
  congr 1
  by_cases h1 : i < 16
  · have h2 : ¬(16 ≤ i ∧ i < 21) := by omega
    simp only [h1, h2, decide_true, decide_false, Bool.not_true, Bool.and_false, Bool.false_and]
  · by_cases h2 : i < 21
    · have h3 : 16 ≤ i ∧ i < 21 := by omega
      have h4 : i - 16 < 32 := by omega
      simp only [h, h1, h3, h4, and_self, decide_true, decide_false, Bool.not_false, Bool.and_true, Bool.true_and]
    · rw [he (by omega)]
      simp only [Bool.and_false]

@[simp] theorem causeOf_withCause (f : BitVec 32) (e : ExcSet) : causeOf (withCause f e) = e := by
  apply BitVec.eq_of_getLsbD_eq
  intro i hi
  simp only [causeOf, BitVec.getLsbD_extractLsb']
  rcases lt_five_cases i hi with rfl | rfl | rfl | rfl | rfl <;> rw [withCause_getLsbD _ _ _ (by decide)] <;> simp

@[simp] theorem flagsOf_withCause (f : BitVec 32) (e : ExcSet) : flagsOf (withCause f e) = flagsOf f := by
  apply BitVec.eq_of_getLsbD_eq
  intro i hi
  simp only [flagsOf, BitVec.getLsbD_extractLsb']
  rcases lt_five_cases i hi with rfl | rfl | rfl | rfl | rfl <;> rw [withCause_getLsbD _ _ _ (by decide)] <;> simp

@[simp] theorem enablesOf_withCause (f : BitVec 32) (e : ExcSet) : enablesOf (withCause f e) = enablesOf f := by
  apply BitVec.eq_of_getLsbD_eq
  intro i hi
  simp only [enablesOf, BitVec.getLsbD_extractLsb']
  rcases lt_five_cases i hi with rfl | rfl | rfl | rfl | rfl <;> rw [withCause_getLsbD _ _ _ (by decide)] <;> simp

@[simp] theorem causeOf_withFlags (f : BitVec 32) (e : ExcSet) : causeOf (withFlags f e) = causeOf f := by
  apply BitVec.eq_of_getLsbD_eq
  intro i hi
  simp only [causeOf, BitVec.getLsbD_extractLsb']
  rcases lt_five_cases i hi with rfl | rfl | rfl | rfl | rfl <;> rw [withFlags_getLsbD _ _ _ (by decide)] <;> simp

@[simp] theorem flagsOf_withFlags (f : BitVec 32) (e : ExcSet) :
    flagsOf (withFlags f e) = flagsOf f ||| e := by
  apply BitVec.eq_of_getLsbD_eq
  intro i hi
  simp only [flagsOf, BitVec.getLsbD_extractLsb', BitVec.getLsbD_or]
  rcases lt_five_cases i hi with rfl | rfl | rfl | rfl | rfl <;> rw [withFlags_getLsbD _ _ _ (by decide)] <;> simp

@[simp] theorem enablesOf_withFlags (f : BitVec 32) (e : ExcSet) : enablesOf (withFlags f e) = enablesOf f := by
  apply BitVec.eq_of_getLsbD_eq
  intro i hi
  simp only [enablesOf, BitVec.getLsbD_extractLsb']
  rcases lt_five_cases i hi with rfl | rfl | rfl | rfl | rfl <;> rw [withFlags_getLsbD _ _ _ (by decide)] <;> simp

@[simp] theorem rmOf_withCause (f : BitVec 32) (e : ExcSet) : rmOf (withCause f e) = rmOf f := by
  have h : (withCause f e).extractLsb' 8 2 = f.extractLsb' 8 2 := by
    apply BitVec.eq_of_getLsbD_eq
    intro i hi
    simp only [BitVec.getLsbD_extractLsb']
    obtain rfl | rfl : i = 0 ∨ i = 1 := by omega
    all_goals rw [withCause_getLsbD _ _ _ (by decide)]
    all_goals simp
  simp [rmOf, h]

@[simp] theorem rmOf_withFlags (f : BitVec 32) (e : ExcSet) : rmOf (withFlags f e) = rmOf f := by
  have h : (withFlags f e).extractLsb' 8 2 = f.extractLsb' 8 2 := by
    apply BitVec.eq_of_getLsbD_eq
    intro i hi
    simp only [BitVec.getLsbD_extractLsb']
    obtain rfl | rfl : i = 0 ∨ i = 1 := by omega
    all_goals rw [withFlags_getLsbD _ _ _ (by decide)]
    all_goals simp
  simp [rmOf, h]

/-- FPCOMMIT without a trap (40_fp_arith.md R1010). -/
theorem fpCommit_ok (s : State) (r : Word × ExcSet) (h : r.2 &&& enablesOf s.fcsr = 0) :
    fpCommit s r = .next (respondScalar { s with fcsr := withFlags (withCause s.fcsr r.2) r.2 } r.1) := by
  rw [fpCommit, if_pos h]

/-- FPCOMMIT with a trap (40_fp_arith.md R1010). -/
theorem fpCommit_trap (s : State) (r : Word × ExcSet) (h : r.2 &&& enablesOf s.fcsr ≠ 0) :
    fpCommit s r = .next (raise { s with fcsr := withCause s.fcsr r.2 } .fpe (r.2.setWidth 64)) := by
  rw [fpCommit, if_neg h]

end Sys2Proof.Machine
end

