-- ==== Sys2Proof/Laws/Float.lean ====
section
/-! SUPPORT. What the steps of rounding compute, as facts about rationals. -/

namespace Sys2Proof.Machine

/-- `2^k <= n / d` as computed is `2^k <= n / d`. -/
theorem pow2Le_iff (k : Int) (n d : Nat) (hd : 0 < d) : pow2Le k n d = true ↔ (2 : ℚ) ^ k ≤ (n : ℚ) / d := by
  have hd' : (0 : ℚ) < d := by exact_mod_cast hd
  unfold pow2Le
  split
  · rename_i h
    obtain ⟨m, rfl⟩ := Int.eq_ofNat_of_zero_le h
    rw [decide_eq_true_iff, le_div_iff₀ hd', Int.toNat_natCast, zpow_natCast, ← Nat.cast_le (α := ℚ)]
    push_cast
    rw [mul_comm]
  · rename_i h
    obtain ⟨m, hm⟩ := Int.eq_ofNat_of_zero_le (show 0 ≤ -k by omega)
    have hk : k = -(m : Int) := by omega
    subst hk
    rw [decide_eq_true_iff, neg_neg, Int.toNat_natCast, zpow_neg, zpow_natCast, le_div_iff₀ hd',
      inv_mul_le_iff₀ (by positivity), ← Nat.cast_le (α := ℚ)]
    push_cast
    rw [mul_comm]

/-- `floorLog2` is the exponent of the binade of a positive real (40_fp_arith.md R1005). -/
theorem floorLog2_spec (n d : Nat) (hn : 0 < n) (hd : 0 < d) :
    (2 : ℚ) ^ floorLog2 n d ≤ (n : ℚ) / d ∧ (n : ℚ) / d < (2 : ℚ) ^ (floorLog2 n d + 1) := by
  have hd' : (0 : ℚ) < d := by exact_mod_cast hd
  have hn' : (0 : ℚ) < n := by exact_mod_cast hn
  have n1 : ((2 ^ Nat.log2 n : Nat) : ℚ) ≤ n := by exact_mod_cast Nat.log2_self_le (by omega)
  have n2 : (n : ℚ) < ((2 ^ (Nat.log2 n + 1) : Nat) : ℚ) := by exact_mod_cast Nat.lt_log2_self
  have d1 : ((2 ^ Nat.log2 d : Nat) : ℚ) ≤ d := by exact_mod_cast Nat.log2_self_le (by omega)
  have d2 : (d : ℚ) < ((2 ^ (Nat.log2 d + 1) : Nat) : ℚ) := by exact_mod_cast Nat.lt_log2_self
  push_cast at n1 n2 d1 d2
  have hlo : (2 : ℚ) ^ ((Nat.log2 n : Int) - Nat.log2 d - 1) ≤ (n : ℚ) / d := by
    rw [le_div_iff₀ hd']
    have : (2 : ℚ) ^ ((Nat.log2 n : Int) - Nat.log2 d - 1) * 2 ^ (Nat.log2 d + 1) = 2 ^ Nat.log2 n := by
      rw [← zpow_natCast, ← zpow_natCast, ← zpow_add₀ (by norm_num)]
      congr 1
      push_cast
      ring
    have hp : (0 : ℚ) < (2 : ℚ) ^ ((Nat.log2 n : Int) - Nat.log2 d - 1) := by positivity
    nlinarith
  have hhi : (n : ℚ) / d < (2 : ℚ) ^ ((Nat.log2 n : Int) - Nat.log2 d + 1) := by
    rw [div_lt_iff₀ hd']
    have : (2 : ℚ) ^ ((Nat.log2 n : Int) - Nat.log2 d + 1) * 2 ^ Nat.log2 d = 2 ^ (Nat.log2 n + 1) := by
      rw [← zpow_natCast, ← zpow_natCast, ← zpow_add₀ (by norm_num)]
      congr 1
      push_cast
      ring
    have hp : (0 : ℚ) < (2 : ℚ) ^ ((Nat.log2 n : Int) - Nat.log2 d + 1) := by positivity
    nlinarith
  unfold floorLog2
  by_cases h : pow2Le ((Nat.log2 n : Int) - Nat.log2 d) n d = true
  · rw [if_pos h]
    exact ⟨(pow2Le_iff _ _ _ hd).mp h, hhi⟩
  · rw [if_neg h]
    refine ⟨hlo, ?_⟩
    rw [Int.sub_add_cancel]
    rw [pow2Le_iff _ _ _ hd] at h
    exact not_le.mp h

/-- The binade of a positive real is unique. -/
theorem floorLog2_unique (n d : Nat) (hn : 0 < n) (hd : 0 < d) (e : Int)
    (h1 : (2 : ℚ) ^ e ≤ (n : ℚ) / d) (h2 : (n : ℚ) / d < (2 : ℚ) ^ (e + 1)) : floorLog2 n d = e := by
  obtain ⟨a1, a2⟩ := floorLog2_spec n d hn hd
  have b1 := (zpow_lt_zpow_iff_right₀ (by norm_num : (1 : ℚ) < 2)).mp (lt_of_le_of_lt a1 h2)
  have b2 := (zpow_lt_zpow_iff_right₀ (by norm_num : (1 : ℚ) < 2)).mp (lt_of_le_of_lt h1 a2)
  omega

/-- `divPow2` divides by `2^g` and keeps the denominator positive. -/
theorem divPow2_spec (n d : Nat) (g : Int) (hd : 0 < d) :
    0 < (divPow2 n d g).2 ∧ ((divPow2 n d g).1 : ℚ) / (divPow2 n d g).2 = (n : ℚ) / d / (2 : ℚ) ^ g := by
  have hd' : (d : ℚ) ≠ 0 := by exact_mod_cast hd.ne'
  unfold divPow2
  split
  · rename_i h
    obtain ⟨m, rfl⟩ := Int.eq_ofNat_of_zero_le h
    refine ⟨by positivity, ?_⟩
    rw [Int.toNat_natCast, zpow_natCast]
    push_cast
    field_simp
  · rename_i h
    obtain ⟨m, hm⟩ := Int.eq_ofNat_of_zero_le (show 0 ≤ -g by omega)
    have hk : g = -(m : Int) := by omega
    subst hk
    refine ⟨hd, ?_⟩
    rw [neg_neg, Int.toNat_natCast, zpow_neg, zpow_natCast]
    push_cast
    field_simp

/-- A fraction is its integer part and the rest. -/
theorem div_eq_floor_add (n d : Nat) (hd : 0 < d) : (n : ℚ) / d = (n / d : Nat) + ((n % d : Nat) : ℚ) / d := by
  have hd' : (d : ℚ) ≠ 0 := by exact_mod_cast hd.ne'
  have h : ((d * (n / d) + n % d : Nat) : ℚ) = n := by rw [Nat.div_add_mod]
  push_cast at h
  field_simp
  linarith

/-- `rint` gives the integer part or one more (40_fp_arith.md R1005). -/
theorem rint_cases (rm : RMode) (s : Bool) (n d : Nat) : rint rm s n d = n / d ∨ rint rm s n d = n / d + 1 := by
  unfold rint
  split
  · exact .inl rfl
  · cases rm <;> cases s <;> (repeat' split) <;> first | exact .inl rfl | exact .inr rfl

/-- `rint` of an integer is that integer, in every mode (40_fp_arith.md R1005). -/
theorem rint_exact (rm : RMode) (s : Bool) (n d : Nat) (h : n % d = 0) : rint rm s n d = n / d := by
  simp [rint, h]

/-- `val(a)` has a positive denominator. -/
theorem fpVal_den_pos (F : Fmt) (a : Word) : 0 < (fpVal F a).den := by
  unfold fpVal Exact.scaled
  split <;> simp

/-- The real of `n * 2^e`. -/
theorem scaled_real (n : Int) (e : Int) : (Exact.scaled n e).real = (n : ℚ) * (2 : ℚ) ^ e := by
  unfold Exact.scaled Exact.real
  split
  · rename_i h
    obtain ⟨m, rfl⟩ := Int.eq_ofNat_of_zero_le h
    simp
  · rename_i h
    obtain ⟨m, hm⟩ := Int.eq_ofNat_of_zero_le (show 0 ≤ -e by omega)
    have hk : e = -(m : Int) := by omega
    subst hk
    simp [div_eq_mul_inv]

/-- The sum of exact fractions is the sum of their reals. -/
theorem add_real (x y : Exact) (hx : 0 < x.den) (hy : 0 < y.den) : (x.add y).real = x.real + y.real := by
  have h1 : (x.den : ℚ) ≠ 0 := by exact_mod_cast hx.ne'
  have h2 : (y.den : ℚ) ≠ 0 := by exact_mod_cast hy.ne'
  simp only [Exact.add, Exact.real]
  push_cast
  field_simp

/-- The product of exact fractions is the product of their reals. -/
theorem mul_real (x y : Exact) : (x.mul y).real = x.real * y.real := by
  simp only [Exact.mul, Exact.real]
  push_cast
  rw [div_mul_div_comm]

/-- The quotient of exact fractions is the quotient of their reals. -/
theorem div_real (x y : Exact) : (x.div y).real = x.real / y.real := by
  simp only [Exact.div, Exact.real]
  split
  · rename_i h
    have : ((y.num.natAbs : Nat) : ℚ) = -(y.num : ℚ) := by
      have h2 : (y.num.natAbs : Int) = -y.num := by omega
      rw [← Int.cast_natCast, h2, Int.cast_neg]
    push_cast
    rw [this, div_div_div_eq, mul_neg, neg_div_neg_eq]
  · rename_i h
    have : ((y.num.natAbs : Nat) : ℚ) = (y.num : ℚ) := by
      have h2 : (y.num.natAbs : Int) = y.num := by omega
      rw [← Int.cast_natCast, h2]
    push_cast
    rw [this, div_div_div_eq]

/-- Comparing exact fractions compares their reals. -/
theorem lt_real (x y : Exact) (hx : 0 < x.den) (hy : 0 < y.den) : x.lt y = true ↔ x.real < y.real := by
  have h1 : (0 : ℚ) < x.den := by exact_mod_cast hx
  have h2 : (0 : ℚ) < y.den := by exact_mod_cast hy
  simp only [Exact.lt, Exact.real, decide_eq_true_iff]
  rw [div_lt_div_iff₀ h1 h2]
  exact_mod_cast Iff.rfl

/-- Equality of exact fractions is equality of their reals. -/
theorem eq_real (x y : Exact) (hx : 0 < x.den) (hy : 0 < y.den) : x.eq y = true ↔ x.real = y.real := by
  have h1 : (x.den : ℚ) ≠ 0 := by exact_mod_cast hx.ne'
  have h2 : (y.den : ℚ) ≠ 0 := by exact_mod_cast hy.ne'
  simp only [Exact.eq, Exact.real, beq_iff_eq]
  rw [div_eq_div_iff h1 h2]
  exact_mod_cast Iff.rfl

end Sys2Proof.Machine
end

