-- ==== Sys2Proof/Laws/Lanes.lean ====
section
/-! SUPPORT. What the lane operations do: reading a lane, packing lanes, the integer readings and saturation. -/

namespace Sys2Proof.Machine

/-- `bits_W(n)` read as unsigned is `n` modulo `2^W` (00_scope.md R14). -/
theorem bits_toNat (W : Nat) (n : Int) : ((bits W n).toNat : Int) = n % 2 ^ W := by
  have h : (0 : Int) < ((2 ^ W : Nat) : Int) := by exact_mod_cast Nat.two_pow_pos W
  have h2 : 0 ≤ n % ((2 ^ W : Nat) : Int) := Int.emod_nonneg _ (by omega)
  simp only [bits, BitVec.toNat_ofInt]
  rw [Int.toNat_of_nonneg h2]
  push_cast
  rfl

/-- A lane read as a number (00_scope.md R16). -/
theorem lane_toNat (W : Nat) (V : Vec) (i : Nat) : (lane W V i).toNat = V.toNat / 2 ^ (i * W) % 2 ^ W := by
  simp [lane, BitVec.extractLsb'_toNat, Nat.shiftRight_eq_div_pow]

/-- Packed lanes take no more bits than their widths together. -/
theorem packLanes_toNat_lt (W n : Nat) (f : Nat → BitVec W) (h : n * W ≤ 256) :
    (packLanes W n f).toNat < 2 ^ (n * W) := by
  induction n with
  | zero => simp [packLanes]
  | succ n ih =>
    have hn : n * W + W ≤ 256 := by rw [Nat.succ_mul] at h; exact h
    have h1 := ih (by omega)
    have h2 : (f n).toNat < 2 ^ W := (f n).isLt
    have h3 : 2 ^ (n * W) ≤ 2 ^ ((n + 1) * W) := Nat.pow_le_pow_right (by decide) (by rw [Nat.succ_mul]; omega)
    have h4 : (f n).toNat * 2 ^ (n * W) < 2 ^ ((n + 1) * W) := by
      rw [Nat.succ_mul, Nat.pow_add, Nat.mul_comm]
      exact Nat.mul_lt_mul_of_pos_left h2 (Nat.two_pow_pos _)
    simp only [packLanes, BitVec.toNat_or, BitVec.toNat_shiftLeft, BitVec.toNat_setWidth, Nat.shiftLeft_eq]
    apply Nat.or_lt_two_pow
    · omega
    · exact lt_of_le_of_lt (Nat.mod_le _ _) (lt_of_le_of_lt (Nat.mul_le_mul_right _ (Nat.mod_le _ _)) h4)

/-- The value of packed lanes, one lane at a time. -/
theorem packLanes_toNat_succ (W n : Nat) (f : Nat → BitVec W) (h : (n + 1) * W ≤ 256) :
    (packLanes W (n + 1) f).toNat = (packLanes W n f).toNat + (f n).toNat * 2 ^ (n * W) := by
  have hn : n * W + W ≤ 256 := by rw [Nat.succ_mul] at h; exact h
  have h1 := packLanes_toNat_lt W n f (by omega)
  have h2 : (f n).toNat < 2 ^ W := (f n).isLt
  have h5 : 2 ^ W ≤ 2 ^ 256 := Nat.pow_le_pow_right (by decide) (by omega)
  have h6 : 2 ^ (n * W + W) ≤ 2 ^ 256 := Nat.pow_le_pow_right (by decide) hn
  have h4 : (f n).toNat * 2 ^ (n * W) < 2 ^ (n * W + W) := by
    rw [Nat.pow_add, Nat.mul_comm]
    exact Nat.mul_lt_mul_of_pos_left h2 (Nat.two_pow_pos _)
  simp only [packLanes, BitVec.toNat_or, BitVec.toNat_shiftLeft, BitVec.toNat_setWidth, Nat.shiftLeft_eq]
  rw [Nat.mod_eq_of_lt (by omega : (f n).toNat < 2 ^ 256), Nat.mod_eq_of_lt (by omega)]
  rw [Nat.or_comm, Nat.mul_comm, ← Nat.two_pow_add_eq_or_of_lt h1, Nat.add_comm]

/-- Lane `i` of packed lanes is the lane packed there. -/
theorem lane_packLanes (W n : Nat) (f : Nat → BitVec W) (i : Nat) (hi : i < n) (h : n * W ≤ 256) :
    lane W (packLanes W n f) i = f i := by
  induction n with
  | zero => omega
  | succ n ih =>
    have hn : n * W + W ≤ 256 := by rw [Nat.succ_mul] at h; exact h
    have h1 := packLanes_toNat_lt W n f (by omega)
    apply BitVec.eq_of_toNat_eq
    rw [lane_toNat, packLanes_toNat_succ W n f h]
    rcases Nat.lt_succ_iff_lt_or_eq.mp hi with h2 | h2
    · have h3 := ih h2 (by omega)
      have h4 := congrArg BitVec.toNat h3
      rw [lane_toNat] at h4
      have h5 : (f n).toNat * 2 ^ (n * W) = 2 ^ (i * W) * (2 ^ W * ((f n).toNat * 2 ^ ((n - i - 1) * W))) := by
        have : n * W = i * W + (W + (n - i - 1) * W) := by
          obtain ⟨k, rfl⟩ : ∃ k, n = i + 1 + k := ⟨n - i - 1, by omega⟩
          have : i + 1 + k - i - 1 = k := by omega
          rw [this]; ring
        rw [this, Nat.pow_add, Nat.pow_add]
        ring
      rw [h5, Nat.add_mul_div_left _ _ (Nat.two_pow_pos _), Nat.add_mul_mod_self_left, h4]
    · subst h2
      rw [Nat.add_mul_div_right _ _ (Nat.two_pow_pos _), Nat.div_eq_of_lt h1, Nat.zero_add,
        Nat.mod_eq_of_lt (f i).isLt]

/-- With a legal VLEN the lanes of a power-of-two width fill the vector exactly (10_state.md R53). -/
theorem lanes_mul (s : State) (W : Nat) (hv : s.cfg.vlen = 128 ∨ s.cfg.vlen = 256)
    (hW : W = 8 ∨ W = 16 ∨ W = 32 ∨ W = 64 ∨ W = 128) : s.lanes W * W = s.cfg.vlen := by
  rcases hv with h | h <;> rcases hW with rfl | rfl | rfl | rfl | rfl <;> simp [State.lanes, h]

/-- A legal VLEN is 128 or 256 (00_scope.md R11). -/
theorem vlen_of_legal (c : Params) (h : c.legal = true) : c.vlen = 128 ∨ c.vlen = 256 := by
  simp only [Params.legal, Bool.and_eq_true, Bool.or_eq_true, beq_iff_eq] at h
  exact h.1.1.1.1.1

/-- `ext(U, x)` is `uint(x)` (00_scope.md R15). -/
theorem ext_U {W : Nat} (x : BitVec W) : ext .U x = (x.toNat : Int) := rfl

/-- `ext(S, x)` is `sint(x)` (00_scope.md R15). -/
theorem ext_S {W : Nat} (x : BitVec W) : ext .S x = x.toInt := rfl

/-- Signed saturation, read back as signed, is the clamped value (00_scope.md R15). -/
theorem satS_toInt (W : Nat) (hW : 0 < W) (n : Int) :
    (satS W n).toInt = min (max n (-2 ^ (W - 1))) (2 ^ (W - 1) - 1) := by
  obtain ⟨k, rfl⟩ : ∃ k, W = k + 1 := ⟨W - 1, by omega⟩
  have hp : (0 : Int) < 2 ^ k := by positivity
  have h2 : (2 : Int) ^ (k + 1) = 2 * 2 ^ k := by ring
  simp only [satS, bits, Nat.add_sub_cancel, BitVec.toInt_ofInt]
  generalize (2 : Int) ^ k = p at *
  have h3 : ((2 ^ (k + 1) : Nat) : Int) = 2 * p := by push_cast; exact h2
  apply Int.bmod_eq_of_le
  · rw [h3]; omega
  · rw [h3]; omega

/-- Unsigned saturation, read back as unsigned, is the clamped value (00_scope.md R15). -/
theorem satU_toNat (W : Nat) (n : Int) : ((satU W n).toNat : Int) = min (max n 0) (2 ^ W - 1) := by
  have hp : (0 : Int) < 2 ^ W := by positivity
  rw [satU, bits_toNat]
  apply Int.emod_eq_of_lt <;> omega

end Sys2Proof.Machine
end

