-- ==== Sys2Proof/Laws/PerInstr.lean ====
section
/-! SUPPORT. Per command: its fields are legal, and its word has those fields. -/

namespace Sys2Proof.Laws.FieldsLegal

/-- The fields of a command are those of a legal command word (30_encoding.md R152), and its word
has those fields. -/
def Statement (i : Instr) : Prop := i.fields.wellFormed = true ∧ Fields.ofCmd (encode i) = i.fields

theorem faddS : Statement .faddS := ⟨rfl, rfl⟩
theorem faddD : Statement .faddD := ⟨rfl, rfl⟩
theorem fsubS : Statement .fsubS := ⟨rfl, rfl⟩
theorem fsubD : Statement .fsubD := ⟨rfl, rfl⟩
theorem fmulS : Statement .fmulS := ⟨rfl, rfl⟩
theorem fmulD : Statement .fmulD := ⟨rfl, rfl⟩
theorem fdivS : Statement .fdivS := ⟨rfl, rfl⟩
theorem fdivD : Statement .fdivD := ⟨rfl, rfl⟩
theorem fmaddS : Statement .fmaddS := ⟨rfl, rfl⟩
theorem fmaddD : Statement .fmaddD := ⟨rfl, rfl⟩
theorem fminS : Statement .fminS := ⟨rfl, rfl⟩
theorem fminD : Statement .fminD := ⟨rfl, rfl⟩
theorem fmaxS : Statement .fmaxS := ⟨rfl, rfl⟩
theorem fmaxD : Statement .fmaxD := ⟨rfl, rfl⟩
theorem fminaS : Statement .fminaS := ⟨rfl, rfl⟩
theorem fminaD : Statement .fminaD := ⟨rfl, rfl⟩
theorem fmaxaS : Statement .fmaxaS := ⟨rfl, rfl⟩
theorem fmaxaD : Statement .fmaxaD := ⟨rfl, rfl⟩
theorem fclassS : Statement .fclassS := ⟨rfl, rfl⟩
theorem fclassD : Statement .fclassD := ⟨rfl, rfl⟩
theorem fcmpQeqS : Statement .fcmpQeqS := ⟨rfl, rfl⟩
theorem fcmpQeqD : Statement .fcmpQeqD := ⟨rfl, rfl⟩
theorem fcmpQneS : Statement .fcmpQneS := ⟨rfl, rfl⟩
theorem fcmpQneD : Statement .fcmpQneD := ⟨rfl, rfl⟩
theorem fcmpQltS : Statement .fcmpQltS := ⟨rfl, rfl⟩
theorem fcmpQltD : Statement .fcmpQltD := ⟨rfl, rfl⟩
theorem fcmpQleS : Statement .fcmpQleS := ⟨rfl, rfl⟩
theorem fcmpQleD : Statement .fcmpQleD := ⟨rfl, rfl⟩
theorem fcmpQgtS : Statement .fcmpQgtS := ⟨rfl, rfl⟩
theorem fcmpQgtD : Statement .fcmpQgtD := ⟨rfl, rfl⟩
theorem fcmpQgeS : Statement .fcmpQgeS := ⟨rfl, rfl⟩
theorem fcmpQgeD : Statement .fcmpQgeD := ⟨rfl, rfl⟩
theorem fcmpSeqS : Statement .fcmpSeqS := ⟨rfl, rfl⟩
theorem fcmpSeqD : Statement .fcmpSeqD := ⟨rfl, rfl⟩
theorem fcmpSneS : Statement .fcmpSneS := ⟨rfl, rfl⟩
theorem fcmpSneD : Statement .fcmpSneD := ⟨rfl, rfl⟩
theorem fcmpSltS : Statement .fcmpSltS := ⟨rfl, rfl⟩
theorem fcmpSltD : Statement .fcmpSltD := ⟨rfl, rfl⟩
theorem fcmpSleS : Statement .fcmpSleS := ⟨rfl, rfl⟩
theorem fcmpSleD : Statement .fcmpSleD := ⟨rfl, rfl⟩
theorem fcmpSgtS : Statement .fcmpSgtS := ⟨rfl, rfl⟩
theorem fcmpSgtD : Statement .fcmpSgtD := ⟨rfl, rfl⟩
theorem fcmpSgeS : Statement .fcmpSgeS := ⟨rfl, rfl⟩
theorem fcmpSgeD : Statement .fcmpSgeD := ⟨rfl, rfl⟩
theorem fcvtSD : Statement .fcvtSD := ⟨rfl, rfl⟩
theorem fcvtDS : Statement .fcvtDS := ⟨rfl, rfl⟩
theorem ftintWS : Statement .ftintWS := ⟨rfl, rfl⟩
theorem ftintrneWS : Statement .ftintrneWS := ⟨rfl, rfl⟩
theorem ftintrzWS : Statement .ftintrzWS := ⟨rfl, rfl⟩
theorem ftintrpWS : Statement .ftintrpWS := ⟨rfl, rfl⟩
theorem ftintrmWS : Statement .ftintrmWS := ⟨rfl, rfl⟩
theorem ftintLS : Statement .ftintLS := ⟨rfl, rfl⟩
theorem ftintrneLS : Statement .ftintrneLS := ⟨rfl, rfl⟩
theorem ftintrzLS : Statement .ftintrzLS := ⟨rfl, rfl⟩
theorem ftintrpLS : Statement .ftintrpLS := ⟨rfl, rfl⟩
theorem ftintrmLS : Statement .ftintrmLS := ⟨rfl, rfl⟩
theorem ftintWD : Statement .ftintWD := ⟨rfl, rfl⟩
theorem ftintrneWD : Statement .ftintrneWD := ⟨rfl, rfl⟩
theorem ftintrzWD : Statement .ftintrzWD := ⟨rfl, rfl⟩
theorem ftintrpWD : Statement .ftintrpWD := ⟨rfl, rfl⟩
theorem ftintrmWD : Statement .ftintrmWD := ⟨rfl, rfl⟩
theorem ftintLD : Statement .ftintLD := ⟨rfl, rfl⟩
theorem ftintrneLD : Statement .ftintrneLD := ⟨rfl, rfl⟩
theorem ftintrzLD : Statement .ftintrzLD := ⟨rfl, rfl⟩
theorem ftintrpLD : Statement .ftintrpLD := ⟨rfl, rfl⟩
theorem ftintrmLD : Statement .ftintrmLD := ⟨rfl, rfl⟩
theorem ffintSW : Statement .ffintSW := ⟨rfl, rfl⟩
theorem ffintSL : Statement .ffintSL := ⟨rfl, rfl⟩
theorem ffintDW : Statement .ffintDW := ⟨rfl, rfl⟩
theorem ffintDL : Statement .ffintDL := ⟨rfl, rfl⟩
theorem vaddB : Statement .vaddB := ⟨rfl, rfl⟩
theorem vaddH : Statement .vaddH := ⟨rfl, rfl⟩
theorem vaddW : Statement .vaddW := ⟨rfl, rfl⟩
theorem vaddD : Statement .vaddD := ⟨rfl, rfl⟩
theorem vaddQ : Statement .vaddQ := ⟨rfl, rfl⟩
theorem vsubB : Statement .vsubB := ⟨rfl, rfl⟩
theorem vsubH : Statement .vsubH := ⟨rfl, rfl⟩
theorem vsubW : Statement .vsubW := ⟨rfl, rfl⟩
theorem vsubD : Statement .vsubD := ⟨rfl, rfl⟩
theorem vsubQ : Statement .vsubQ := ⟨rfl, rfl⟩
theorem vsaddB : Statement .vsaddB := ⟨rfl, rfl⟩
theorem vsaddBu : Statement .vsaddBu := ⟨rfl, rfl⟩
theorem vsaddH : Statement .vsaddH := ⟨rfl, rfl⟩
theorem vsaddHu : Statement .vsaddHu := ⟨rfl, rfl⟩
theorem vsaddW : Statement .vsaddW := ⟨rfl, rfl⟩
theorem vsaddWu : Statement .vsaddWu := ⟨rfl, rfl⟩
theorem vsaddD : Statement .vsaddD := ⟨rfl, rfl⟩
theorem vsaddDu : Statement .vsaddDu := ⟨rfl, rfl⟩
theorem vssubB : Statement .vssubB := ⟨rfl, rfl⟩
theorem vssubBu : Statement .vssubBu := ⟨rfl, rfl⟩
theorem vssubH : Statement .vssubH := ⟨rfl, rfl⟩
theorem vssubHu : Statement .vssubHu := ⟨rfl, rfl⟩
theorem vssubW : Statement .vssubW := ⟨rfl, rfl⟩
theorem vssubWu : Statement .vssubWu := ⟨rfl, rfl⟩
theorem vssubD : Statement .vssubD := ⟨rfl, rfl⟩
theorem vssubDu : Statement .vssubDu := ⟨rfl, rfl⟩
theorem vavgB : Statement .vavgB := ⟨rfl, rfl⟩
theorem vavgBu : Statement .vavgBu := ⟨rfl, rfl⟩
theorem vavgH : Statement .vavgH := ⟨rfl, rfl⟩
theorem vavgHu : Statement .vavgHu := ⟨rfl, rfl⟩
theorem vavgW : Statement .vavgW := ⟨rfl, rfl⟩
theorem vavgWu : Statement .vavgWu := ⟨rfl, rfl⟩
theorem vavgD : Statement .vavgD := ⟨rfl, rfl⟩
theorem vavgDu : Statement .vavgDu := ⟨rfl, rfl⟩
theorem vavgrB : Statement .vavgrB := ⟨rfl, rfl⟩
theorem vavgrBu : Statement .vavgrBu := ⟨rfl, rfl⟩
theorem vavgrH : Statement .vavgrH := ⟨rfl, rfl⟩
theorem vavgrHu : Statement .vavgrHu := ⟨rfl, rfl⟩
theorem vavgrW : Statement .vavgrW := ⟨rfl, rfl⟩
theorem vavgrWu : Statement .vavgrWu := ⟨rfl, rfl⟩
theorem vavgrD : Statement .vavgrD := ⟨rfl, rfl⟩
theorem vavgrDu : Statement .vavgrDu := ⟨rfl, rfl⟩
theorem vabsdB : Statement .vabsdB := ⟨rfl, rfl⟩
theorem vabsdBu : Statement .vabsdBu := ⟨rfl, rfl⟩
theorem vabsdH : Statement .vabsdH := ⟨rfl, rfl⟩
theorem vabsdHu : Statement .vabsdHu := ⟨rfl, rfl⟩
theorem vabsdW : Statement .vabsdW := ⟨rfl, rfl⟩
theorem vabsdWu : Statement .vabsdWu := ⟨rfl, rfl⟩
theorem vabsdD : Statement .vabsdD := ⟨rfl, rfl⟩
theorem vabsdDu : Statement .vabsdDu := ⟨rfl, rfl⟩
theorem vabsdaccB : Statement .vabsdaccB := ⟨rfl, rfl⟩
theorem vabsdaccBu : Statement .vabsdaccBu := ⟨rfl, rfl⟩
theorem vabsdaccH : Statement .vabsdaccH := ⟨rfl, rfl⟩
theorem vabsdaccHu : Statement .vabsdaccHu := ⟨rfl, rfl⟩
theorem vabsdaccW : Statement .vabsdaccW := ⟨rfl, rfl⟩
theorem vabsdaccWu : Statement .vabsdaccWu := ⟨rfl, rfl⟩
theorem vabsdaccD : Statement .vabsdaccD := ⟨rfl, rfl⟩
theorem vabsdaccDu : Statement .vabsdaccDu := ⟨rfl, rfl⟩
theorem vminB : Statement .vminB := ⟨rfl, rfl⟩
theorem vminBu : Statement .vminBu := ⟨rfl, rfl⟩
theorem vminH : Statement .vminH := ⟨rfl, rfl⟩
theorem vminHu : Statement .vminHu := ⟨rfl, rfl⟩
theorem vminW : Statement .vminW := ⟨rfl, rfl⟩
theorem vminWu : Statement .vminWu := ⟨rfl, rfl⟩
theorem vminD : Statement .vminD := ⟨rfl, rfl⟩
theorem vminDu : Statement .vminDu := ⟨rfl, rfl⟩
theorem vmaxB : Statement .vmaxB := ⟨rfl, rfl⟩
theorem vmaxBu : Statement .vmaxBu := ⟨rfl, rfl⟩
theorem vmaxH : Statement .vmaxH := ⟨rfl, rfl⟩
theorem vmaxHu : Statement .vmaxHu := ⟨rfl, rfl⟩
theorem vmaxW : Statement .vmaxW := ⟨rfl, rfl⟩
theorem vmaxWu : Statement .vmaxWu := ⟨rfl, rfl⟩
theorem vmaxD : Statement .vmaxD := ⟨rfl, rfl⟩
theorem vmaxDu : Statement .vmaxDu := ⟨rfl, rfl⟩
theorem vminiB : Statement .vminiB := ⟨rfl, rfl⟩
theorem vminiBu : Statement .vminiBu := ⟨rfl, rfl⟩
theorem vminiH : Statement .vminiH := ⟨rfl, rfl⟩
theorem vminiHu : Statement .vminiHu := ⟨rfl, rfl⟩
theorem vminiW : Statement .vminiW := ⟨rfl, rfl⟩
theorem vminiWu : Statement .vminiWu := ⟨rfl, rfl⟩
theorem vminiD : Statement .vminiD := ⟨rfl, rfl⟩
theorem vminiDu : Statement .vminiDu := ⟨rfl, rfl⟩
theorem vmaxiB : Statement .vmaxiB := ⟨rfl, rfl⟩
theorem vmaxiBu : Statement .vmaxiBu := ⟨rfl, rfl⟩
theorem vmaxiH : Statement .vmaxiH := ⟨rfl, rfl⟩
theorem vmaxiHu : Statement .vmaxiHu := ⟨rfl, rfl⟩
theorem vmaxiW : Statement .vmaxiW := ⟨rfl, rfl⟩
theorem vmaxiWu : Statement .vmaxiWu := ⟨rfl, rfl⟩
theorem vmaxiD : Statement .vmaxiD := ⟨rfl, rfl⟩
theorem vmaxiDu : Statement .vmaxiDu := ⟨rfl, rfl⟩
theorem vmulB : Statement .vmulB := ⟨rfl, rfl⟩
theorem vmulH : Statement .vmulH := ⟨rfl, rfl⟩
theorem vmulW : Statement .vmulW := ⟨rfl, rfl⟩
theorem vmulD : Statement .vmulD := ⟨rfl, rfl⟩
theorem vmuhB : Statement .vmuhB := ⟨rfl, rfl⟩
theorem vmuhBu : Statement .vmuhBu := ⟨rfl, rfl⟩
theorem vmuhH : Statement .vmuhH := ⟨rfl, rfl⟩
theorem vmuhHu : Statement .vmuhHu := ⟨rfl, rfl⟩
theorem vmuhW : Statement .vmuhW := ⟨rfl, rfl⟩
theorem vmuhWu : Statement .vmuhWu := ⟨rfl, rfl⟩
theorem vmuhD : Statement .vmuhD := ⟨rfl, rfl⟩
theorem vmuhDu : Statement .vmuhDu := ⟨rfl, rfl⟩
theorem vmaddB : Statement .vmaddB := ⟨rfl, rfl⟩
theorem vmaddH : Statement .vmaddH := ⟨rfl, rfl⟩
theorem vmaddW : Statement .vmaddW := ⟨rfl, rfl⟩
theorem vmaddD : Statement .vmaddD := ⟨rfl, rfl⟩
theorem vmsubB : Statement .vmsubB := ⟨rfl, rfl⟩
theorem vmsubH : Statement .vmsubH := ⟨rfl, rfl⟩
theorem vmsubW : Statement .vmsubW := ⟨rfl, rfl⟩
theorem vmsubD : Statement .vmsubD := ⟨rfl, rfl⟩
theorem vmulwevHB : Statement .vmulwevHB := ⟨rfl, rfl⟩
theorem vmulwevHuBu : Statement .vmulwevHuBu := ⟨rfl, rfl⟩
theorem vmulwevHBuB : Statement .vmulwevHBuB := ⟨rfl, rfl⟩
theorem vmulwevWH : Statement .vmulwevWH := ⟨rfl, rfl⟩
theorem vmulwevWuHu : Statement .vmulwevWuHu := ⟨rfl, rfl⟩
theorem vmulwevWHuH : Statement .vmulwevWHuH := ⟨rfl, rfl⟩
theorem vmulwevDW : Statement .vmulwevDW := ⟨rfl, rfl⟩
theorem vmulwevDuWu : Statement .vmulwevDuWu := ⟨rfl, rfl⟩
theorem vmulwevDWuW : Statement .vmulwevDWuW := ⟨rfl, rfl⟩
theorem vmulwevQD : Statement .vmulwevQD := ⟨rfl, rfl⟩
theorem vmulwevQuDu : Statement .vmulwevQuDu := ⟨rfl, rfl⟩
theorem vmulwevQDuD : Statement .vmulwevQDuD := ⟨rfl, rfl⟩
theorem vmulwodHB : Statement .vmulwodHB := ⟨rfl, rfl⟩
theorem vmulwodHuBu : Statement .vmulwodHuBu := ⟨rfl, rfl⟩
theorem vmulwodHBuB : Statement .vmulwodHBuB := ⟨rfl, rfl⟩
theorem vmulwodWH : Statement .vmulwodWH := ⟨rfl, rfl⟩
theorem vmulwodWuHu : Statement .vmulwodWuHu := ⟨rfl, rfl⟩
theorem vmulwodWHuH : Statement .vmulwodWHuH := ⟨rfl, rfl⟩
theorem vmulwodDW : Statement .vmulwodDW := ⟨rfl, rfl⟩
theorem vmulwodDuWu : Statement .vmulwodDuWu := ⟨rfl, rfl⟩
theorem vmulwodDWuW : Statement .vmulwodDWuW := ⟨rfl, rfl⟩
theorem vmulwodQD : Statement .vmulwodQD := ⟨rfl, rfl⟩
theorem vmulwodQuDu : Statement .vmulwodQuDu := ⟨rfl, rfl⟩
theorem vmulwodQDuD : Statement .vmulwodQDuD := ⟨rfl, rfl⟩
theorem vmaddwevHB : Statement .vmaddwevHB := ⟨rfl, rfl⟩
theorem vmaddwevHuBu : Statement .vmaddwevHuBu := ⟨rfl, rfl⟩
theorem vmaddwevHBuB : Statement .vmaddwevHBuB := ⟨rfl, rfl⟩
theorem vmaddwevWH : Statement .vmaddwevWH := ⟨rfl, rfl⟩
theorem vmaddwevWuHu : Statement .vmaddwevWuHu := ⟨rfl, rfl⟩
theorem vmaddwevWHuH : Statement .vmaddwevWHuH := ⟨rfl, rfl⟩
theorem vmaddwevDW : Statement .vmaddwevDW := ⟨rfl, rfl⟩
theorem vmaddwevDuWu : Statement .vmaddwevDuWu := ⟨rfl, rfl⟩
theorem vmaddwevDWuW : Statement .vmaddwevDWuW := ⟨rfl, rfl⟩
theorem vmaddwevQD : Statement .vmaddwevQD := ⟨rfl, rfl⟩
theorem vmaddwevQuDu : Statement .vmaddwevQuDu := ⟨rfl, rfl⟩
theorem vmaddwevQDuD : Statement .vmaddwevQDuD := ⟨rfl, rfl⟩
theorem vmaddwodHB : Statement .vmaddwodHB := ⟨rfl, rfl⟩
theorem vmaddwodHuBu : Statement .vmaddwodHuBu := ⟨rfl, rfl⟩
theorem vmaddwodHBuB : Statement .vmaddwodHBuB := ⟨rfl, rfl⟩
theorem vmaddwodWH : Statement .vmaddwodWH := ⟨rfl, rfl⟩
theorem vmaddwodWuHu : Statement .vmaddwodWuHu := ⟨rfl, rfl⟩
theorem vmaddwodWHuH : Statement .vmaddwodWHuH := ⟨rfl, rfl⟩
theorem vmaddwodDW : Statement .vmaddwodDW := ⟨rfl, rfl⟩
theorem vmaddwodDuWu : Statement .vmaddwodDuWu := ⟨rfl, rfl⟩
theorem vmaddwodDWuW : Statement .vmaddwodDWuW := ⟨rfl, rfl⟩
theorem vmaddwodQD : Statement .vmaddwodQD := ⟨rfl, rfl⟩
theorem vmaddwodQuDu : Statement .vmaddwodQuDu := ⟨rfl, rfl⟩
theorem vmaddwodQDuD : Statement .vmaddwodQDuD := ⟨rfl, rfl⟩
theorem vmsubwevHB : Statement .vmsubwevHB := ⟨rfl, rfl⟩
theorem vmsubwevHuBu : Statement .vmsubwevHuBu := ⟨rfl, rfl⟩
theorem vmsubwevHBuB : Statement .vmsubwevHBuB := ⟨rfl, rfl⟩
theorem vmsubwevWH : Statement .vmsubwevWH := ⟨rfl, rfl⟩
theorem vmsubwevWuHu : Statement .vmsubwevWuHu := ⟨rfl, rfl⟩
theorem vmsubwevWHuH : Statement .vmsubwevWHuH := ⟨rfl, rfl⟩
theorem vmsubwevDW : Statement .vmsubwevDW := ⟨rfl, rfl⟩
theorem vmsubwevDuWu : Statement .vmsubwevDuWu := ⟨rfl, rfl⟩
theorem vmsubwevDWuW : Statement .vmsubwevDWuW := ⟨rfl, rfl⟩
theorem vmsubwevQD : Statement .vmsubwevQD := ⟨rfl, rfl⟩
theorem vmsubwevQuDu : Statement .vmsubwevQuDu := ⟨rfl, rfl⟩
theorem vmsubwevQDuD : Statement .vmsubwevQDuD := ⟨rfl, rfl⟩
theorem vmsubwodHB : Statement .vmsubwodHB := ⟨rfl, rfl⟩
theorem vmsubwodHuBu : Statement .vmsubwodHuBu := ⟨rfl, rfl⟩
theorem vmsubwodHBuB : Statement .vmsubwodHBuB := ⟨rfl, rfl⟩
theorem vmsubwodWH : Statement .vmsubwodWH := ⟨rfl, rfl⟩
theorem vmsubwodWuHu : Statement .vmsubwodWuHu := ⟨rfl, rfl⟩
theorem vmsubwodWHuH : Statement .vmsubwodWHuH := ⟨rfl, rfl⟩
theorem vmsubwodDW : Statement .vmsubwodDW := ⟨rfl, rfl⟩
theorem vmsubwodDuWu : Statement .vmsubwodDuWu := ⟨rfl, rfl⟩
theorem vmsubwodDWuW : Statement .vmsubwodDWuW := ⟨rfl, rfl⟩
theorem vmsubwodQD : Statement .vmsubwodQD := ⟨rfl, rfl⟩
theorem vmsubwodQuDu : Statement .vmsubwodQuDu := ⟨rfl, rfl⟩
theorem vmsubwodQDuD : Statement .vmsubwodQDuD := ⟨rfl, rfl⟩
theorem vhaddwHB : Statement .vhaddwHB := ⟨rfl, rfl⟩
theorem vhaddwHuBu : Statement .vhaddwHuBu := ⟨rfl, rfl⟩
theorem vhaddwHBuB : Statement .vhaddwHBuB := ⟨rfl, rfl⟩
theorem vhaddwWH : Statement .vhaddwWH := ⟨rfl, rfl⟩
theorem vhaddwWuHu : Statement .vhaddwWuHu := ⟨rfl, rfl⟩
theorem vhaddwWHuH : Statement .vhaddwWHuH := ⟨rfl, rfl⟩
theorem vhaddwDW : Statement .vhaddwDW := ⟨rfl, rfl⟩
theorem vhaddwDuWu : Statement .vhaddwDuWu := ⟨rfl, rfl⟩
theorem vhaddwDWuW : Statement .vhaddwDWuW := ⟨rfl, rfl⟩
theorem vhaddwQD : Statement .vhaddwQD := ⟨rfl, rfl⟩
theorem vhaddwQuDu : Statement .vhaddwQuDu := ⟨rfl, rfl⟩
theorem vhaddwQDuD : Statement .vhaddwQDuD := ⟨rfl, rfl⟩
theorem vhsubwHB : Statement .vhsubwHB := ⟨rfl, rfl⟩
theorem vhsubwHuBu : Statement .vhsubwHuBu := ⟨rfl, rfl⟩
theorem vhsubwHBuB : Statement .vhsubwHBuB := ⟨rfl, rfl⟩
theorem vhsubwWH : Statement .vhsubwWH := ⟨rfl, rfl⟩
theorem vhsubwWuHu : Statement .vhsubwWuHu := ⟨rfl, rfl⟩
theorem vhsubwWHuH : Statement .vhsubwWHuH := ⟨rfl, rfl⟩
theorem vhsubwDW : Statement .vhsubwDW := ⟨rfl, rfl⟩
theorem vhsubwDuWu : Statement .vhsubwDuWu := ⟨rfl, rfl⟩
theorem vhsubwDWuW : Statement .vhsubwDWuW := ⟨rfl, rfl⟩
theorem vhsubwQD : Statement .vhsubwQD := ⟨rfl, rfl⟩
theorem vhsubwQuDu : Statement .vhsubwQuDu := ⟨rfl, rfl⟩
theorem vhsubwQDuD : Statement .vhsubwQDuD := ⟨rfl, rfl⟩
theorem vaddwevHB : Statement .vaddwevHB := ⟨rfl, rfl⟩
theorem vaddwevHuBu : Statement .vaddwevHuBu := ⟨rfl, rfl⟩
theorem vaddwevHBuB : Statement .vaddwevHBuB := ⟨rfl, rfl⟩
theorem vaddwevWH : Statement .vaddwevWH := ⟨rfl, rfl⟩
theorem vaddwevWuHu : Statement .vaddwevWuHu := ⟨rfl, rfl⟩
theorem vaddwevWHuH : Statement .vaddwevWHuH := ⟨rfl, rfl⟩
theorem vaddwevDW : Statement .vaddwevDW := ⟨rfl, rfl⟩
theorem vaddwevDuWu : Statement .vaddwevDuWu := ⟨rfl, rfl⟩
theorem vaddwevDWuW : Statement .vaddwevDWuW := ⟨rfl, rfl⟩
theorem vaddwevQD : Statement .vaddwevQD := ⟨rfl, rfl⟩
theorem vaddwevQuDu : Statement .vaddwevQuDu := ⟨rfl, rfl⟩
theorem vaddwevQDuD : Statement .vaddwevQDuD := ⟨rfl, rfl⟩
theorem vaddwodHB : Statement .vaddwodHB := ⟨rfl, rfl⟩
theorem vaddwodHuBu : Statement .vaddwodHuBu := ⟨rfl, rfl⟩
theorem vaddwodHBuB : Statement .vaddwodHBuB := ⟨rfl, rfl⟩
theorem vaddwodWH : Statement .vaddwodWH := ⟨rfl, rfl⟩
theorem vaddwodWuHu : Statement .vaddwodWuHu := ⟨rfl, rfl⟩
theorem vaddwodWHuH : Statement .vaddwodWHuH := ⟨rfl, rfl⟩
theorem vaddwodDW : Statement .vaddwodDW := ⟨rfl, rfl⟩
theorem vaddwodDuWu : Statement .vaddwodDuWu := ⟨rfl, rfl⟩
theorem vaddwodDWuW : Statement .vaddwodDWuW := ⟨rfl, rfl⟩
theorem vaddwodQD : Statement .vaddwodQD := ⟨rfl, rfl⟩
theorem vaddwodQuDu : Statement .vaddwodQuDu := ⟨rfl, rfl⟩
theorem vaddwodQDuD : Statement .vaddwodQDuD := ⟨rfl, rfl⟩
theorem vsubwevHB : Statement .vsubwevHB := ⟨rfl, rfl⟩
theorem vsubwevHuBu : Statement .vsubwevHuBu := ⟨rfl, rfl⟩
theorem vsubwevHBuB : Statement .vsubwevHBuB := ⟨rfl, rfl⟩
theorem vsubwevWH : Statement .vsubwevWH := ⟨rfl, rfl⟩
theorem vsubwevWuHu : Statement .vsubwevWuHu := ⟨rfl, rfl⟩
theorem vsubwevWHuH : Statement .vsubwevWHuH := ⟨rfl, rfl⟩
theorem vsubwevDW : Statement .vsubwevDW := ⟨rfl, rfl⟩
theorem vsubwevDuWu : Statement .vsubwevDuWu := ⟨rfl, rfl⟩
theorem vsubwevDWuW : Statement .vsubwevDWuW := ⟨rfl, rfl⟩
theorem vsubwevQD : Statement .vsubwevQD := ⟨rfl, rfl⟩
theorem vsubwevQuDu : Statement .vsubwevQuDu := ⟨rfl, rfl⟩
theorem vsubwevQDuD : Statement .vsubwevQDuD := ⟨rfl, rfl⟩
theorem vsubwodHB : Statement .vsubwodHB := ⟨rfl, rfl⟩
theorem vsubwodHuBu : Statement .vsubwodHuBu := ⟨rfl, rfl⟩
theorem vsubwodHBuB : Statement .vsubwodHBuB := ⟨rfl, rfl⟩
theorem vsubwodWH : Statement .vsubwodWH := ⟨rfl, rfl⟩
theorem vsubwodWuHu : Statement .vsubwodWuHu := ⟨rfl, rfl⟩
theorem vsubwodWHuH : Statement .vsubwodWHuH := ⟨rfl, rfl⟩
theorem vsubwodDW : Statement .vsubwodDW := ⟨rfl, rfl⟩
theorem vsubwodDuWu : Statement .vsubwodDuWu := ⟨rfl, rfl⟩
theorem vsubwodDWuW : Statement .vsubwodDWuW := ⟨rfl, rfl⟩
theorem vsubwodQD : Statement .vsubwodQD := ⟨rfl, rfl⟩
theorem vsubwodQuDu : Statement .vsubwodQuDu := ⟨rfl, rfl⟩
theorem vsubwodQDuD : Statement .vsubwodQDuD := ⟨rfl, rfl⟩
theorem vnarrowBH : Statement .vnarrowBH := ⟨rfl, rfl⟩
theorem vnarrowHW : Statement .vnarrowHW := ⟨rfl, rfl⟩
theorem vnarrowWD : Statement .vnarrowWD := ⟨rfl, rfl⟩
theorem vnarrowDQ : Statement .vnarrowDQ := ⟨rfl, rfl⟩
theorem vnarrowsBH : Statement .vnarrowsBH := ⟨rfl, rfl⟩
theorem vnarrowsHW : Statement .vnarrowsHW := ⟨rfl, rfl⟩
theorem vnarrowsWD : Statement .vnarrowsWD := ⟨rfl, rfl⟩
theorem vnarrowsDQ : Statement .vnarrowsDQ := ⟨rfl, rfl⟩
theorem vnarrowuBuHu : Statement .vnarrowuBuHu := ⟨rfl, rfl⟩
theorem vnarrowuHuWu : Statement .vnarrowuHuWu := ⟨rfl, rfl⟩
theorem vnarrowuWuDu : Statement .vnarrowuWuDu := ⟨rfl, rfl⟩
theorem vnarrowuDuQu : Statement .vnarrowuDuQu := ⟨rfl, rfl⟩
theorem tlblookupR : Statement .tlblookupR := ⟨rfl, rfl⟩
theorem tlblookupW : Statement .tlblookupW := ⟨rfl, rfl⟩
theorem tlblookupX : Statement .tlblookupX := ⟨rfl, rfl⟩
theorem tlbfill : Statement .tlbfill := ⟨rfl, rfl⟩
theorem tlbprobe : Statement .tlbprobe := ⟨rfl, rfl⟩
theorem tlbinvPage : Statement .tlbinvPage := ⟨rfl, rfl⟩
theorem tlbinvAsid : Statement .tlbinvAsid := ⟨rfl, rfl⟩
theorem tlbinvGlobal : Statement .tlbinvGlobal := ⟨rfl, rfl⟩
theorem tlbinvAll : Statement .tlbinvAll := ⟨rfl, rfl⟩
theorem csrrd : Statement .csrrd := ⟨rfl, rfl⟩
theorem csrwr : Statement .csrwr := ⟨rfl, rfl⟩

end Sys2Proof.Laws.FieldsLegal
end

