-- ==== Sys2Proof/Laws/Tlb.lean ====
section
/-! SUPPORT. What the TLB operations do to the entries. -/

namespace Sys2Proof.Machine

@[simp] theorem TlbEntry.clear_v (e : TlbEntry) : e.clear.v = false := rfl

/-- A cleared entry matches nothing (20_memory.md R107). -/
@[simp] theorem TlbEntry.hits_clear (e : TlbEntry) (asid : BitVec 16) (vpn : BitVec 64) :
    e.clear.hits asid vpn = false := rfl

/-- The match rule in words (20_memory.md R107). -/
theorem TlbEntry.hits_iff (e : TlbEntry) (asid : BitVec 16) (vpn : BitVec 64) :
    e.hits asid vpn = true ↔ e.v = true ∧ e.vpn = vpn ∧ (e.g = true ∨ e.asid = asid) := by
  simp [TlbEntry.hits, and_assoc]

/-- The conflict set in words (20_memory.md R108). -/
theorem TlbEntry.conflicts_iff (e n : TlbEntry) :
    e.conflicts n = true ↔ e.v = true ∧ e.vpn = n.vpn ∧ (e.g = true ∨ n.g = true ∨ e.asid = n.asid) := by
  simp [TlbEntry.conflicts, and_assoc, or_assoc]

@[simp] theorem invalidateIf_length (p : TlbEntry → Bool) (tlb : List TlbEntry) :
    (invalidateIf p tlb).length = tlb.length := by simp [invalidateIf]

@[simp] theorem invalidateIf_getElem? (p : TlbEntry → Bool) (tlb : List TlbEntry) (i : Nat) :
    (invalidateIf p tlb)[i]? = tlb[i]?.map fun e => if p e then e.clear else e := by simp [invalidateIf]

@[simp] theorem fillTlb_length (tlb : List TlbEntry) (rr : Nat) (n : TlbEntry) :
    (fillTlb tlb rr n).length = tlb.length := by simp [fillTlb]

/-- Every entry after a fill (20_memory.md R108). -/
theorem fillTlb_getElem? (tlb : List TlbEntry) (rr : Nat) (n : TlbEntry) (i : Nat) :
    (fillTlb tlb rr n)[i]? =
      if fillSlot tlb rr n = i then (if i < tlb.length then some n else none)
      else tlb[i]?.map fun e => if e.conflicts n then e.clear else e := by
  by_cases h : fillSlot tlb rr n = i
  · subst h
    by_cases h2 : fillSlot tlb rr n < tlb.length <;> simp [fillTlb, h2]
  · simp [fillTlb, h]

/-- The slot a fill writes is a slot of the TLB. -/
theorem fillSlot_lt (tlb : List TlbEntry) (rr : Nat) (n : TlbEntry) (h : rr < tlb.length) :
    fillSlot tlb rr n < tlb.length := by
  unfold fillSlot
  split
  · rename_i i hi
    exact (List.findIdx?_eq_some_iff_findIdx_eq.mp hi).1
  · split
    · rename_i i hi
      exact (List.findIdx?_eq_some_iff_findIdx_eq.mp hi).1
    · exact h

/-- The slot lies in the conflict set if there is one, and is invalid otherwise unless the fill evicts
(20_memory.md R108). -/
theorem fillSlot_cases (tlb : List TlbEntry) (rr : Nat) (n : TlbEntry) :
    (∃ e, tlb[fillSlot tlb rr n]? = some e ∧ (e.conflicts n = true ∨
      ((∀ f ∈ tlb, f.conflicts n = false) ∧ e.v = false))) ∨
    ((∀ f ∈ tlb, f.conflicts n = false ∧ f.v = true) ∧ fillSlot tlb rr n = rr) := by
  unfold fillSlot
  split
  · rename_i i hi
    obtain ⟨h1, h2, -⟩ := List.findIdx?_eq_some_iff_getElem.mp hi
    exact .inl ⟨tlb[i], by simp [h1], .inl h2⟩
  · rename_i hn
    rw [List.findIdx?_eq_none_iff] at hn
    split
    · rename_i i hi
      obtain ⟨h1, h2, -⟩ := List.findIdx?_eq_some_iff_getElem.mp hi
      exact .inl ⟨tlb[i], by simp [h1], .inr ⟨hn, by simpa using h2⟩⟩
    · rename_i hv
      rw [List.findIdx?_eq_none_iff] at hv
      exact .inr ⟨fun f hf => ⟨hn f hf, by simpa using hv f hf⟩, rfl⟩

/-- An entry that matches some pair the new entry matches is in its conflict set (20_memory.md R108). -/
theorem conflicts_of_hits (e n : TlbEntry) (asid : BitVec 16) (vpn : BitVec 64)
    (h1 : e.hits asid vpn = true) (h2 : n.hits asid vpn = true) : e.conflicts n = true := by
  rw [TlbEntry.hits_iff] at h1 h2
  rw [TlbEntry.conflicts_iff]
  obtain ⟨hv, hp, hg⟩ := h1
  obtain ⟨-, hp2, hg2⟩ := h2
  refine ⟨hv, hp.trans hp2.symm, ?_⟩
  rcases hg with hg | hg
  · exact .inl hg
  · rcases hg2 with hg2 | hg2
    · exact .inr (.inl hg2)
    · exact .inr (.inr (hg.trans hg2.symm))

end Sys2Proof.Machine
end

