-- ==== Sys2Proof/Tests/Slice0.lean ====
section
/-! SUPPORT. Tests of the model, each from a source outside it: the ill-formed words, the word of every command from the
listing of 30_encoding.md R166, vectors of 95_test_vectors.md on one command each, and for every statement with
hypotheses a concrete state and operands that meet them. -/

namespace Sys2Proof.Tests

set_option Elab.async false

open Sys2Proof.Machine Sys2Proof.Spec

/-! ### Words -/

/-- The fields of `fadd.s`, legal; each test below spoils one of them. -/
def sound : Fields := ⟨1, 0x01, 0, 0, 0, 0⟩

theorem test_sound_is_well_formed : sound.wellFormed = true := by decide

/-- R152: a reserved bit is set. -/
theorem test_reserved_refused : { sound with rsv := 1 }.wellFormed = false := by decide

/-- R151: UNIT 0 and UNIT 5 are reserved. -/
theorem test_unit_refused : { sound with unit := 0 }.wellFormed = false ∧ { sound with unit := 5 }.wellFormed = false := by decide

/-- R153: FPU operation 0x06 is not listed. -/
theorem test_op_refused : { sound with op := 0x06 }.wellFormed = false := by decide

/-- R153: `fadd` has no width 2. -/
theorem test_wid_refused : { sound with wid := 2 }.wellFormed = false := by decide

/-- R153: `fadd` has no sign field. -/
theorem test_sgn_refused : { sound with sgn := 1 }.wellFormed = false := by decide

/-- R153: `fadd` names no rounding mode. -/
theorem test_rnd_refused : { sound with rnd := 1 }.wellFormed = false := by decide

/-- 95_test_vectors.md L2.60, rows 1 to 5: these words are no command. -/
theorem test_illegal_words :
    ([0x00000000, 0x10100001, 0x10120000, 0x20104000, 0x50000000].all fun w => decodeTableWord 32 w == none) = true := by
  decide +kernel

/-- Each word is read as its command, and the command is encoded as its word. -/
def Agree (ps : List (Nat × Instr)) : Bool :=
  ps.all fun p => decodeTableWord 32 p.1 == some p.2 && encode p.2 == BitVec.ofNat 32 p.1

/-- 30_encoding.md R166. -/
theorem test_words_fpu_arithmetic :
    Agree [(0x10100000, .faddS), (0x10110000, .faddD), (0x10200000, .fsubS), (0x10210000, .fsubD), (0x10300000, .fmulS),
      (0x10310000, .fmulD), (0x10400000, .fdivS), (0x10410000, .fdivD), (0x10500000, .fmaddS), (0x10510000, .fmaddD),
      (0x10800000, .fminS), (0x10810000, .fminD), (0x10900000, .fmaxS), (0x10910000, .fmaxD), (0x10A00000, .fminaS),
      (0x10A10000, .fminaD), (0x10B00000, .fmaxaS), (0x10B10000, .fmaxaD), (0x11000000, .fclassS),
      (0x11010000, .fclassD)] = true := by
  decide +kernel

/-- 30_encoding.md R166. -/
theorem test_words_fpu_comparison :
    Agree [(0x12000000, .fcmpQeqS), (0x12010000, .fcmpQeqD), (0x12100000, .fcmpQneS), (0x12110000, .fcmpQneD),
      (0x12200000, .fcmpQltS), (0x12210000, .fcmpQltD), (0x12300000, .fcmpQleS), (0x12310000, .fcmpQleD),
      (0x12400000, .fcmpQgtS), (0x12410000, .fcmpQgtD), (0x12500000, .fcmpQgeS), (0x12510000, .fcmpQgeD),
      (0x12800000, .fcmpSeqS), (0x12810000, .fcmpSeqD), (0x12900000, .fcmpSneS), (0x12910000, .fcmpSneD),
      (0x12A00000, .fcmpSltS), (0x12A10000, .fcmpSltD), (0x12B00000, .fcmpSleS), (0x12B10000, .fcmpSleD),
      (0x12C00000, .fcmpSgtS), (0x12C10000, .fcmpSgtD), (0x12D00000, .fcmpSgeS), (0x12D10000, .fcmpSgeD)] = true := by
  decide +kernel

/-- 30_encoding.md R166. -/
theorem test_words_fpu_conversion :
    Agree [(0x13000000, .fcvtSD), (0x13010000, .fcvtDS), (0x13100000, .ftintWS), (0x13100800, .ftintrneWS),
      (0x13101000, .ftintrzWS), (0x13101800, .ftintrpWS), (0x13102000, .ftintrmWS), (0x13104000, .ftintLS),
      (0x13104800, .ftintrneLS), (0x13105000, .ftintrzLS), (0x13105800, .ftintrpLS), (0x13106000, .ftintrmLS),
      (0x13110000, .ftintWD), (0x13110800, .ftintrneWD), (0x13111000, .ftintrzWD), (0x13111800, .ftintrpWD),
      (0x13112000, .ftintrmWD), (0x13114000, .ftintLD), (0x13114800, .ftintrneLD), (0x13115000, .ftintrzLD),
      (0x13115800, .ftintrpLD), (0x13116000, .ftintrmLD), (0x13200000, .ffintSW), (0x13204000, .ffintSL),
      (0x13210000, .ffintDW), (0x13214000, .ffintDL)] = true := by
  decide +kernel

/-- 30_encoding.md R166. -/
theorem test_words_simd_add_subtract :
    Agree [(0x20100000, .vaddB), (0x20110000, .vaddH), (0x20120000, .vaddW), (0x20130000, .vaddD), (0x20140000, .vaddQ),
      (0x20200000, .vsubB), (0x20210000, .vsubH), (0x20220000, .vsubW), (0x20230000, .vsubD), (0x20240000, .vsubQ),
      (0x20300000, .vsaddB), (0x20304000, .vsaddBu), (0x20310000, .vsaddH), (0x20314000, .vsaddHu),
      (0x20320000, .vsaddW), (0x20324000, .vsaddWu), (0x20330000, .vsaddD), (0x20334000, .vsaddDu),
      (0x20400000, .vssubB), (0x20404000, .vssubBu), (0x20410000, .vssubH), (0x20414000, .vssubHu),
      (0x20420000, .vssubW), (0x20424000, .vssubWu), (0x20430000, .vssubD), (0x20434000, .vssubDu)] = true := by
  decide +kernel

/-- 30_encoding.md R166. -/
theorem test_words_simd_average_difference :
    Agree [(0x20500000, .vavgB), (0x20504000, .vavgBu), (0x20510000, .vavgH), (0x20514000, .vavgHu), (0x20520000, .vavgW),
      (0x20524000, .vavgWu), (0x20530000, .vavgD), (0x20534000, .vavgDu), (0x20600000, .vavgrB),
      (0x20604000, .vavgrBu), (0x20610000, .vavgrH), (0x20614000, .vavgrHu), (0x20620000, .vavgrW),
      (0x20624000, .vavgrWu), (0x20630000, .vavgrD), (0x20634000, .vavgrDu), (0x20700000, .vabsdB),
      (0x20704000, .vabsdBu), (0x20710000, .vabsdH), (0x20714000, .vabsdHu), (0x20720000, .vabsdW),
      (0x20724000, .vabsdWu), (0x20730000, .vabsdD), (0x20734000, .vabsdDu), (0x20800000, .vabsdaccB),
      (0x20804000, .vabsdaccBu), (0x20810000, .vabsdaccH), (0x20814000, .vabsdaccHu), (0x20820000, .vabsdaccW),
      (0x20824000, .vabsdaccWu), (0x20830000, .vabsdaccD), (0x20834000, .vabsdaccDu)] = true := by
  decide +kernel

/-- 30_encoding.md R166. -/
theorem test_words_simd_min_max :
    Agree [(0x20900000, .vminB), (0x20904000, .vminBu), (0x20910000, .vminH), (0x20914000, .vminHu), (0x20920000, .vminW),
      (0x20924000, .vminWu), (0x20930000, .vminD), (0x20934000, .vminDu), (0x20A00000, .vmaxB),
      (0x20A04000, .vmaxBu), (0x20A10000, .vmaxH), (0x20A14000, .vmaxHu), (0x20A20000, .vmaxW),
      (0x20A24000, .vmaxWu), (0x20A30000, .vmaxD), (0x20A34000, .vmaxDu), (0x20B00000, .vminiB),
      (0x20B04000, .vminiBu), (0x20B10000, .vminiH), (0x20B14000, .vminiHu), (0x20B20000, .vminiW),
      (0x20B24000, .vminiWu), (0x20B30000, .vminiD), (0x20B34000, .vminiDu), (0x20C00000, .vmaxiB),
      (0x20C04000, .vmaxiBu), (0x20C10000, .vmaxiH), (0x20C14000, .vmaxiHu), (0x20C20000, .vmaxiW),
      (0x20C24000, .vmaxiWu), (0x20C30000, .vmaxiD), (0x20C34000, .vmaxiDu)] = true := by
  decide +kernel

/-- 30_encoding.md R166. -/
theorem test_words_simd_multiply :
    Agree [(0x21000000, .vmulB), (0x21010000, .vmulH), (0x21020000, .vmulW), (0x21030000, .vmulD), (0x21100000, .vmuhB),
      (0x21104000, .vmuhBu), (0x21110000, .vmuhH), (0x21114000, .vmuhHu), (0x21120000, .vmuhW),
      (0x21124000, .vmuhWu), (0x21130000, .vmuhD), (0x21134000, .vmuhDu), (0x21200000, .vmaddB),
      (0x21210000, .vmaddH), (0x21220000, .vmaddW), (0x21230000, .vmaddD), (0x21300000, .vmsubB),
      (0x21310000, .vmsubH), (0x21320000, .vmsubW), (0x21330000, .vmsubD)] = true := by
  decide +kernel

/-- 30_encoding.md R166. -/
theorem test_words_simd_vmulwev :
    Agree [(0x22600000, .vmulwevHB), (0x22604000, .vmulwevHuBu), (0x22608000, .vmulwevHBuB), (0x22610000, .vmulwevWH),
      (0x22614000, .vmulwevWuHu), (0x22618000, .vmulwevWHuH), (0x22620000, .vmulwevDW), (0x22624000, .vmulwevDuWu),
      (0x22628000, .vmulwevDWuW), (0x22630000, .vmulwevQD), (0x22634000, .vmulwevQuDu), (0x22638000, .vmulwevQDuD)] = true := by
  decide +kernel

/-- 30_encoding.md R166. -/
theorem test_words_simd_vmulwod :
    Agree [(0x22700000, .vmulwodHB), (0x22704000, .vmulwodHuBu), (0x22708000, .vmulwodHBuB), (0x22710000, .vmulwodWH),
      (0x22714000, .vmulwodWuHu), (0x22718000, .vmulwodWHuH), (0x22720000, .vmulwodDW), (0x22724000, .vmulwodDuWu),
      (0x22728000, .vmulwodDWuW), (0x22730000, .vmulwodQD), (0x22734000, .vmulwodQuDu), (0x22738000, .vmulwodQDuD)] = true := by
  decide +kernel

/-- 30_encoding.md R166. -/
theorem test_words_simd_vmaddwev :
    Agree [(0x22800000, .vmaddwevHB), (0x22804000, .vmaddwevHuBu), (0x22808000, .vmaddwevHBuB), (0x22810000, .vmaddwevWH),
      (0x22814000, .vmaddwevWuHu), (0x22818000, .vmaddwevWHuH), (0x22820000, .vmaddwevDW),
      (0x22824000, .vmaddwevDuWu), (0x22828000, .vmaddwevDWuW), (0x22830000, .vmaddwevQD),
      (0x22834000, .vmaddwevQuDu), (0x22838000, .vmaddwevQDuD)] = true := by
  decide +kernel

/-- 30_encoding.md R166. -/
theorem test_words_simd_vmaddwod :
    Agree [(0x22900000, .vmaddwodHB), (0x22904000, .vmaddwodHuBu), (0x22908000, .vmaddwodHBuB), (0x22910000, .vmaddwodWH),
      (0x22914000, .vmaddwodWuHu), (0x22918000, .vmaddwodWHuH), (0x22920000, .vmaddwodDW),
      (0x22924000, .vmaddwodDuWu), (0x22928000, .vmaddwodDWuW), (0x22930000, .vmaddwodQD),
      (0x22934000, .vmaddwodQuDu), (0x22938000, .vmaddwodQDuD)] = true := by
  decide +kernel

/-- 30_encoding.md R166. -/
theorem test_words_simd_vmsubwev :
    Agree [(0x22A00000, .vmsubwevHB), (0x22A04000, .vmsubwevHuBu), (0x22A08000, .vmsubwevHBuB), (0x22A10000, .vmsubwevWH),
      (0x22A14000, .vmsubwevWuHu), (0x22A18000, .vmsubwevWHuH), (0x22A20000, .vmsubwevDW),
      (0x22A24000, .vmsubwevDuWu), (0x22A28000, .vmsubwevDWuW), (0x22A30000, .vmsubwevQD),
      (0x22A34000, .vmsubwevQuDu), (0x22A38000, .vmsubwevQDuD)] = true := by
  decide +kernel

/-- 30_encoding.md R166. -/
theorem test_words_simd_vmsubwod :
    Agree [(0x22B00000, .vmsubwodHB), (0x22B04000, .vmsubwodHuBu), (0x22B08000, .vmsubwodHBuB), (0x22B10000, .vmsubwodWH),
      (0x22B14000, .vmsubwodWuHu), (0x22B18000, .vmsubwodWHuH), (0x22B20000, .vmsubwodDW),
      (0x22B24000, .vmsubwodDuWu), (0x22B28000, .vmsubwodDWuW), (0x22B30000, .vmsubwodQD),
      (0x22B34000, .vmsubwodQuDu), (0x22B38000, .vmsubwodQDuD)] = true := by
  decide +kernel

/-- 30_encoding.md R166. -/
theorem test_words_simd_vhaddw :
    Agree [(0x22000000, .vhaddwHB), (0x22004000, .vhaddwHuBu), (0x22008000, .vhaddwHBuB), (0x22010000, .vhaddwWH),
      (0x22014000, .vhaddwWuHu), (0x22018000, .vhaddwWHuH), (0x22020000, .vhaddwDW), (0x22024000, .vhaddwDuWu),
      (0x22028000, .vhaddwDWuW), (0x22030000, .vhaddwQD), (0x22034000, .vhaddwQuDu), (0x22038000, .vhaddwQDuD)] = true := by
  decide +kernel

/-- 30_encoding.md R166. -/
theorem test_words_simd_vhsubw :
    Agree [(0x22100000, .vhsubwHB), (0x22104000, .vhsubwHuBu), (0x22108000, .vhsubwHBuB), (0x22110000, .vhsubwWH),
      (0x22114000, .vhsubwWuHu), (0x22118000, .vhsubwWHuH), (0x22120000, .vhsubwDW), (0x22124000, .vhsubwDuWu),
      (0x22128000, .vhsubwDWuW), (0x22130000, .vhsubwQD), (0x22134000, .vhsubwQuDu), (0x22138000, .vhsubwQDuD)] = true := by
  decide +kernel

/-- 30_encoding.md R166. -/
theorem test_words_simd_vaddwev :
    Agree [(0x22200000, .vaddwevHB), (0x22204000, .vaddwevHuBu), (0x22208000, .vaddwevHBuB), (0x22210000, .vaddwevWH),
      (0x22214000, .vaddwevWuHu), (0x22218000, .vaddwevWHuH), (0x22220000, .vaddwevDW), (0x22224000, .vaddwevDuWu),
      (0x22228000, .vaddwevDWuW), (0x22230000, .vaddwevQD), (0x22234000, .vaddwevQuDu), (0x22238000, .vaddwevQDuD)] = true := by
  decide +kernel

/-- 30_encoding.md R166. -/
theorem test_words_simd_vaddwod :
    Agree [(0x22300000, .vaddwodHB), (0x22304000, .vaddwodHuBu), (0x22308000, .vaddwodHBuB), (0x22310000, .vaddwodWH),
      (0x22314000, .vaddwodWuHu), (0x22318000, .vaddwodWHuH), (0x22320000, .vaddwodDW), (0x22324000, .vaddwodDuWu),
      (0x22328000, .vaddwodDWuW), (0x22330000, .vaddwodQD), (0x22334000, .vaddwodQuDu), (0x22338000, .vaddwodQDuD)] = true := by
  decide +kernel

/-- 30_encoding.md R166. -/
theorem test_words_simd_vsubwev :
    Agree [(0x22400000, .vsubwevHB), (0x22404000, .vsubwevHuBu), (0x22408000, .vsubwevHBuB), (0x22410000, .vsubwevWH),
      (0x22414000, .vsubwevWuHu), (0x22418000, .vsubwevWHuH), (0x22420000, .vsubwevDW), (0x22424000, .vsubwevDuWu),
      (0x22428000, .vsubwevDWuW), (0x22430000, .vsubwevQD), (0x22434000, .vsubwevQuDu), (0x22438000, .vsubwevQDuD)] = true := by
  decide +kernel

/-- 30_encoding.md R166. -/
theorem test_words_simd_vsubwod :
    Agree [(0x22500000, .vsubwodHB), (0x22504000, .vsubwodHuBu), (0x22508000, .vsubwodHBuB), (0x22510000, .vsubwodWH),
      (0x22514000, .vsubwodWuHu), (0x22518000, .vsubwodWHuH), (0x22520000, .vsubwodDW), (0x22524000, .vsubwodDuWu),
      (0x22528000, .vsubwodDWuW), (0x22530000, .vsubwodQD), (0x22534000, .vsubwodQuDu), (0x22538000, .vsubwodQDuD)] = true := by
  decide +kernel

/-- 30_encoding.md R166. -/
theorem test_words_simd_narrowing :
    Agree [(0x23010000, .vnarrowBH), (0x23020000, .vnarrowHW), (0x23030000, .vnarrowWD), (0x23040000, .vnarrowDQ),
      (0x23110000, .vnarrowsBH), (0x23120000, .vnarrowsHW), (0x23130000, .vnarrowsWD), (0x23140000, .vnarrowsDQ),
      (0x23210000, .vnarrowuBuHu), (0x23220000, .vnarrowuHuWu), (0x23230000, .vnarrowuWuDu),
      (0x23240000, .vnarrowuDuQu)] = true := by
  decide +kernel

/-- 30_encoding.md R166. -/
theorem test_words_tlb :
    Agree [(0x30100000, .tlblookupR), (0x30200000, .tlblookupW), (0x30300000, .tlblookupX), (0x30800000, .tlbfill),
      (0x30900000, .tlbprobe), (0x31000000, .tlbinvPage), (0x31100000, .tlbinvAsid), (0x31200000, .tlbinvGlobal),
      (0x31300000, .tlbinvAll)] = true := by
  decide +kernel

/-- 30_encoding.md R166. -/
theorem test_words_csr :
    Agree [(0x40100000, .csrrd), (0x40200000, .csrwr)] = true := by
  decide +kernel

/-! ### One command each -/

/-- A request with three scalars and an immediate in flight, at reset but for FCSR. -/
def scalars (fcsr : BitVec 32) (a b c : Word) : State :=
  { State.reset with fcsr := fcsr, busy := 1, req := { Request.zero with xa := a, xb := b, xc := c, priv := .K, pc := 0x1000 } }

/-- A request with three vectors and an immediate in flight, at reset. -/
def vectors (a b c : Vec) (imm : Word) : State :=
  { State.reset with busy := 1, req := { Request.zero with va := a, vb := b, vc := c, imm := imm, pc := 0x2000 } }

/-- The state a command leaves. -/
def after (i : Instr) (s : State) : State :=
  match exec i s with
  | .next t => t
  | .fault _ => s
  | .refused _ => s

/-- The command answers a next state. -/
def runs (i : Instr) (s : State) : Bool :=
  match exec i s with
  | .next _ => true
  | .fault _ => false
  | .refused _ => false

theorem exec_after (i : Instr) (s : State) (h : runs i s = true) : exec i s = .next (after i s) := by
  unfold runs at h
  unfold after
  split <;> simp_all

/-- `XR` and FCSR after a scalar command. -/
def scalarOf (i : Instr) (s : State) : Nat × Nat := ((after i s).resp.xr.toNat, (after i s).fcsr.toNat)

/-- `VR` after a vector command. -/
def vectorOf (i : Instr) (s : State) : Nat := (after i s).resp.vr.toNat

/-- FCODE and FVALUE after a command. -/
def faultOf (i : Instr) (s : State) : Nat × Nat := ((after i s).resp.fcode.toNat, (after i s).resp.fvalue.toNat)

/-- FCSR after an FPU command. -/
def fcsrOf (i : Instr) (s : State) : Nat := (after i s).fcsr.toNat

/-- 95_test_vectors.md L2.40, row 4. -/
theorem test_fadd_s :
    scalarOf .faddS (scalars 0x00000200 0x3F800000 0x33800000 0) = (0x3F800001, 0x01010200) := by
  decide +kernel

/-- 95_test_vectors.md L2.40, row 15. -/
theorem test_fsub_s :
    scalarOf .fsubS (scalars 0x00000300 0x3F800000 0x3F800000 0) = (0x80000000, 0x00000300) := by
  decide +kernel

/-- 95_test_vectors.md L2.40, row 19. -/
theorem test_fmul_s :
    scalarOf .fmulS (scalars 0x00000000 0x00800001 0x3F000000 0) = (0x00400000, 0x03030000) := by
  decide +kernel

/-- 95_test_vectors.md L2.40, row 32. -/
theorem test_fdiv_s :
    faultOf .fdivS (scalars 0x00000008 0x3F800000 0x00000000 0) = (0x07, 0x8) ∧ fcsrOf .fdivS (scalars 0x00000008 0x3F800000 0x00000000 0) = 0x08000008 := by
  decide +kernel

/-- 95_test_vectors.md L2.40, row 33. -/
theorem test_fmadd_s :
    scalarOf .fmaddS (scalars 0x00000000 0x3F800001 0x3F800001 0xBF800002) = (0x28800000, 0x00000000) := by
  decide +kernel

/-- 95_test_vectors.md L2.40, row 39. -/
theorem test_fmin_s :
    scalarOf .fminS (scalars 0x00000000 0x7F800001 0x3F800000 0) = (0x3F800000, 0x10100000) := by
  decide +kernel

/-- 95_test_vectors.md L2.40, row 43. -/
theorem test_fmax_s :
    scalarOf .fmaxS (scalars 0x00000000 0x00000000 0x80000000 0) = (0x00000000, 0x00000000) := by
  decide +kernel

/-- 95_test_vectors.md L2.40, row 45. -/
theorem test_fmina_s :
    scalarOf .fminaS (scalars 0x00000000 0xC0000000 0x40000000 0) = (0xC0000000, 0x00000000) := by
  decide +kernel

/-- 95_test_vectors.md L2.40, row 47. -/
theorem test_fmaxa_s :
    scalarOf .fmaxaS (scalars 0x00000000 0xC0400000 0x7F800001 0) = (0xC0400000, 0x10100000) := by
  decide +kernel

/-- 95_test_vectors.md L2.40, row 48. -/
theorem test_fclass_s :
    scalarOf .fclassS (scalars 0x00000000 0x80000010 0 0) = (0x4, 0x00000000) := by
  decide +kernel

/-- 95_test_vectors.md L2.40, row 61. -/
theorem test_fmax_d :
    scalarOf .fmaxD (scalars 0x00000000 0x7FF8000000000000 0x7FF0000000000002 0) = (0x7FF8000000000002, 0x10100000) := by
  decide +kernel

/-- 95_test_vectors.md L2.40, row 59. -/
theorem test_fmadd_d :
    scalarOf .fmaddD (scalars 0x00000000 0x3FF0000000000001 0x3FF0000000000001 0xBFF0000000000002) = (0x3970000000000000, 0x00000000) := by
  decide +kernel

/-- 95_test_vectors.md L2.41, row 2. -/
theorem test_fcmp_qeq_s :
    scalarOf .fcmpQeqS (scalars 0x00000000 0x00000000 0x80000000 0) = (0x1, 0x00000000) := by
  decide +kernel

/-- 95_test_vectors.md L2.41, row 3. -/
theorem test_fcmp_qne_s :
    scalarOf .fcmpQneS (scalars 0x00000000 0x7FC00000 0x3F800000 0) = (0x1, 0x00000000) := by
  decide +kernel

/-- 95_test_vectors.md L2.41, row 5. -/
theorem test_fcmp_qlt_s :
    scalarOf .fcmpQltS (scalars 0x00000000 0x7F800001 0x3F800000 0) = (0x0, 0x10100000) := by
  decide +kernel

/-- 95_test_vectors.md L2.41, row 8. -/
theorem test_fcmp_qle_s :
    scalarOf .fcmpQleS (scalars 0x00000000 0x3F800000 0x3F800000 0) = (0x1, 0x00000000) := by
  decide +kernel

/-- 95_test_vectors.md L2.41, row 9. -/
theorem test_fcmp_qgt_s :
    scalarOf .fcmpQgtS (scalars 0x00000000 0xFF800000 0xFF7FFFFF 0) = (0x0, 0x00000000) := by
  decide +kernel

/-- 95_test_vectors.md L2.41, row 10. -/
theorem test_fcmp_qge_s :
    scalarOf .fcmpQgeS (scalars 0x00000000 0x40000000 0x40400000 0) = (0x0, 0x00000000) := by
  decide +kernel

/-- 95_test_vectors.md L2.41, row 11. -/
theorem test_fcmp_seq_s :
    scalarOf .fcmpSeqS (scalars 0x00000000 0x7F800000 0x7F800000 0) = (0x1, 0x00000000) := by
  decide +kernel

/-- 95_test_vectors.md L2.41, row 12. -/
theorem test_fcmp_sne_s :
    scalarOf .fcmpSneS (scalars 0x00000000 0x3F800000 0x40000000 0) = (0x1, 0x00000000) := by
  decide +kernel

/-- 95_test_vectors.md L2.41, row 7. -/
theorem test_fcmp_slt_s :
    faultOf .fcmpSltS (scalars 0x00000010 0x7FC00000 0x3F800000 0) = (0x07, 0x10) ∧ fcsrOf .fcmpSltS (scalars 0x00000010 0x7FC00000 0x3F800000 0) = 0x10000010 := by
  decide +kernel

/-- 95_test_vectors.md L2.41, row 13. -/
theorem test_fcmp_sle_s :
    scalarOf .fcmpSleS (scalars 0x00000000 0x80000000 0x00000000 0) = (0x1, 0x00000000) := by
  decide +kernel

/-- 95_test_vectors.md L2.41, row 14. -/
theorem test_fcmp_sgt_s :
    scalarOf .fcmpSgtS (scalars 0x00000000 0x40400000 0x40000000 0) = (0x1, 0x00000000) := by
  decide +kernel

/-- 95_test_vectors.md L2.41, row 15. -/
theorem test_fcmp_sge_s :
    scalarOf .fcmpSgeS (scalars 0x00000000 0x3F800000 0x7FC00000 0) = (0x0, 0x10100000) := by
  decide +kernel

/-- 95_test_vectors.md L2.41, row 21. -/
theorem test_fcvt_d_s :
    scalarOf .fcvtDS (scalars 0x00000000 0x7F800001 0 0) = (0x7FF8000020000000, 0x10100000) := by
  decide +kernel

/-- 95_test_vectors.md L2.41, row 27. -/
theorem test_fcvt_s_d :
    scalarOf .fcvtSD (scalars 0x00000000 0x380FFFFFF8000000 0 0) = (0x00800000, 0x01010000) := by
  decide +kernel

/-- 95_test_vectors.md L2.41, row 47. -/
theorem test_ftint_w_d :
    scalarOf .ftintWD (scalars 0x00000000 0x41DFFFFFFFE00000 0 0) = (0x000000007FFFFFFF, 0x10100000) := by
  decide +kernel

/-- 95_test_vectors.md L2.41, row 32. -/
theorem test_ftintrne_w_s :
    scalarOf .ftintrneWS (scalars 0x00000100 0x40600000 0 0) = (0x0000000000000004, 0x01010100) := by
  decide +kernel

/-- 95_test_vectors.md L2.41, row 33. -/
theorem test_ftintrz_w_s :
    scalarOf .ftintrzWS (scalars 0x00000000 0xC02CCCCD 0 0) = (0xFFFFFFFFFFFFFFFE, 0x01010000) := by
  decide +kernel

/-- 95_test_vectors.md L2.41, row 34. -/
theorem test_ftintrp_w_s :
    scalarOf .ftintrpWS (scalars 0x00000000 0xC02CCCCD 0 0) = (0xFFFFFFFFFFFFFFFE, 0x01010000) := by
  decide +kernel

/-- 95_test_vectors.md L2.41, row 35. -/
theorem test_ftintrm_w_s :
    scalarOf .ftintrmWS (scalars 0x00000000 0xC0200000 0 0) = (0xFFFFFFFFFFFFFFFD, 0x01010000) := by
  decide +kernel

/-- 95_test_vectors.md L2.41, row 53. -/
theorem test_ftintrm_l_d :
    scalarOf .ftintrmLD (scalars 0x00000000 0x7FF0000000000001 0 0) = (0x0000000000000000, 0x10100000) := by
  decide +kernel

/-- 95_test_vectors.md L2.41, row 57. -/
theorem test_ffint_s_w :
    scalarOf .ffintSW (scalars 0x00000000 0x1234567800000000 0 0) = (0x00000000, 0x00000000) := by
  decide +kernel

/-- 95_test_vectors.md L2.41, row 59. -/
theorem test_ffint_s_l :
    scalarOf .ffintSL (scalars 0x00000100 0x7FFFFFFFFFFFFFFF 0 0) = (0x5EFFFFFF, 0x01010100) := by
  decide +kernel

/-- 95_test_vectors.md L2.41, row 60. -/
theorem test_ffint_d_w :
    scalarOf .ffintDW (scalars 0x00000000 0x0000000080000000 0 0) = (0xC1E0000000000000, 0x00000000) := by
  decide +kernel

/-- 95_test_vectors.md L2.41, row 62. -/
theorem test_ffint_d_l :
    scalarOf .ffintDL (scalars 0x00000300 0x0020000000000001 0 0) = (0x4340000000000000, 0x01010300) := by
  decide +kernel

/-- 95_test_vectors.md L2.42, row 1. -/
theorem test_vadd_b :
    vectorOf .vaddB
      (vectors 0x8001FF7F 0x80020101 0x0 0) =
      0x30080 := by
  decide +kernel

/-- 95_test_vectors.md L2.42, row 6. -/
theorem test_vadd_q :
    vectorOf .vaddQ
      (vectors 0xFFFFFFFFFFFFFFFFFFFFFFFFFFFFFFFF 0x1 0x0 0) =
      0x0 := by
  decide +kernel

/-- 95_test_vectors.md L2.42, row 8. -/
theorem test_vsub_q :
    vectorOf .vsubQ
      (vectors 0x10000000000000000 0x1 0x0 0) =
      0xFFFFFFFFFFFFFFFF := by
  decide +kernel

/-- 95_test_vectors.md L2.42, row 9. -/
theorem test_vsadd_b :
    vectorOf .vsaddB
      (vectors 0xF010807F 0xF010FF01 0x0 0) =
      0xE020807F := by
  decide +kernel

/-- 95_test_vectors.md L2.42, row 11. -/
theorem test_vsadd_h :
    vectorOf .vsaddH
      (vectors 0x80007FFF 0x80007FFF 0x0 0) =
      0x80007FFF := by
  decide +kernel

/-- 95_test_vectors.md L2.42, row 15. -/
theorem test_vssub_bu :
    vectorOf .vssubBu
      (vectors 0xFF0500 0x10701 0x0 0) =
      0xFE0000 := by
  decide +kernel

/-- 95_test_vectors.md L2.42, row 17. -/
theorem test_vssub_w :
    vectorOf .vssubW
      (vectors 0x80000000 0x1 0x0 0) =
      0x80000000 := by
  decide +kernel

/-- 95_test_vectors.md L2.42, row 19. -/
theorem test_vavg_b :
    vectorOf .vavgB
      (vectors 0x3807FFF 0x4807F00 0x0 0) =
      0x3807FFF := by
  decide +kernel

/-- 95_test_vectors.md L2.42, row 20. -/
theorem test_vavgr_b :
    vectorOf .vavgrB
      (vectors 0x3807FFF 0x4807F00 0x0 0) =
      0x4807F00 := by
  decide +kernel

/-- 95_test_vectors.md L2.42, row 22. -/
theorem test_vavgr_hu :
    vectorOf .vavgrHu
      (vectors 0xFFFF 0xFFFF 0x0 0) =
      0xFFFF := by
  decide +kernel

/-- 95_test_vectors.md L2.42, row 25. -/
theorem test_vabsd_b :
    vectorOf .vabsdB
      (vectors 0x7F0580 0x80097F 0x0 0) =
      0xFF04FF := by
  decide +kernel

/-- 95_test_vectors.md L2.42, row 29. -/
theorem test_vabsdacc_b :
    vectorOf .vabsdaccB
      (vectors 0x580 0x97F 0xFA01 0) =
      0xFE00 := by
  decide +kernel

/-- 95_test_vectors.md L2.42, row 31. -/
theorem test_vabsdacc_w :
    vectorOf .vabsdaccW
      (vectors 0xFFFFFFFF 0x1 0xFFFFFFFF 0) =
      0x1 := by
  decide +kernel

/-- 95_test_vectors.md L2.43, row 1. -/
theorem test_vmin_b :
    vectorOf .vminB
      (vectors 0xFF0180 0xFEFF01 0x0 0) =
      0xFEFF80 := by
  decide +kernel

/-- 95_test_vectors.md L2.43, row 4. -/
theorem test_vmax_bu :
    vectorOf .vmaxBu
      (vectors 0xFF0180 0xFEFF01 0x0 0) =
      0xFFFF80 := by
  decide +kernel

/-- 95_test_vectors.md L2.43, row 8. -/
theorem test_vmaxi_b :
    vectorOf .vmaxiB
      (vectors 0xFC7F0080 0x0 0x0 (-3)) =
      0xFD7F00FD := by
  decide +kernel

/-- 95_test_vectors.md L2.43, row 10. -/
theorem test_vmini_b :
    vectorOf .vminiB
      (vectors 0x7F0080 0x0 0x0 (-16)) =
      0xF0F0F0F0F0F0F0F0F0F0F0F0F0F0F080 := by
  decide +kernel

/-- 95_test_vectors.md L2.43, row 11. -/
theorem test_vmini_b_again :
    faultOf .vminiB (vectors 0x1 0x0 0x0 16) = (0x03, 0x10) := by
  decide +kernel

/-- 95_test_vectors.md L2.43, row 12. -/
theorem test_vmaxi_b_again :
    faultOf .vmaxiB (vectors 0x1 0x0 0x0 (-17)) = (0x03, 0xFFFFFFFFFFFFFFEF) := by
  decide +kernel

/-- 95_test_vectors.md L2.43, row 14. -/
theorem test_vmaxi_hu :
    vectorOf .vmaxiHu
      (vectors 0x3FFFF 0x0 0x0 10) =
      0xA000A000A000A000A000A000AFFFF := by
  decide +kernel

/-- 95_test_vectors.md L2.43, row 16. -/
theorem test_vmini_wu :
    faultOf .vminiWu (vectors 0x1 0x0 0x0 (-1)) = (0x03, 0xFFFFFFFFFFFFFFFF) := by
  decide +kernel

/-- 95_test_vectors.md L2.44, row 1. -/
theorem test_vmul_b :
    vectorOf .vmulB
      (vectors 0x7FF10 0x9FF10 0x0 0) =
      0x3F0100 := by
  decide +kernel

/-- 95_test_vectors.md L2.44, row 5. -/
theorem test_vmuh_b :
    vectorOf .vmuhB
      (vectors 0x7FFF80 0x80FF80 0x0 0) =
      0xC00040 := by
  decide +kernel

/-- 95_test_vectors.md L2.44, row 6. -/
theorem test_vmuh_bu :
    vectorOf .vmuhBu
      (vectors 0x80FF 0x2FF 0x0 0) =
      0x1FE := by
  decide +kernel

/-- 95_test_vectors.md L2.44, row 11. -/
theorem test_vmadd_b :
    vectorOf .vmaddB
      (vectors 0x310 0x410 0xFF01 0) =
      0xB01 := by
  decide +kernel

/-- 95_test_vectors.md L2.44, row 13. -/
theorem test_vmsub_h :
    vectorOf .vmsubH
      (vectors 0x1000002 0x1000003 0xA 0) =
      0x4 := by
  decide +kernel

/-- 95_test_vectors.md L2.45, row 1. -/
theorem test_vmulwev_h_b :
    vectorOf .vmulwevHB
      (vectors 0x30280FF 0x504FF80 0x0 0) =
      0x80080 := by
  decide +kernel

/-- 95_test_vectors.md L2.45, row 2. -/
theorem test_vmulwod_h_b :
    vectorOf .vmulwodHB
      (vectors 0x30280FF 0x504FF80 0x0 0) =
      0xF0080 := by
  decide +kernel

/-- 95_test_vectors.md L2.45, row 5. -/
theorem test_vmulwev_h_bu_b :
    vectorOf .vmulwevHBuB
      (vectors 0x30280FF 0x504FF80 0x0 0) =
      0x88080 := by
  decide +kernel

/-- 95_test_vectors.md L2.45, row 15. -/
theorem test_vmulwev_q_du_d :
    vectorOf .vmulwevQDuD
      (vectors 0xFFFFFFFFFFFFFFFF 0xFFFFFFFFFFFFFFFF 0x0 0) =
      0xFFFFFFFFFFFFFFFF0000000000000001 := by
  decide +kernel

/-- 95_test_vectors.md L2.45, row 16. -/
theorem test_vmaddwev_h_b :
    vectorOf .vmaddwevHB
      (vectors 0x30280FF 0x504FF80 0x17F80 0) =
      0x98000 := by
  decide +kernel

/-- 95_test_vectors.md L2.45, row 17. -/
theorem test_vmaddwod_hu_bu :
    vectorOf .vmaddwodHuBu
      (vectors 0x30280FF 0x504FF80 0x10001 0) =
      0x107F81 := by
  decide +kernel

/-- 95_test_vectors.md L2.45, row 21. -/
theorem test_vmsubwev_h_b :
    vectorOf .vmsubwevHB
      (vectors 0x30280FF 0x504FF80 0x0 0) =
      0xFFF8FF80 := by
  decide +kernel

/-- 95_test_vectors.md L2.45, row 22. -/
theorem test_vmsubwod_wu_hu :
    vectorOf .vmsubwodWuHu
      (vectors 0x20000 0x30000 0x5 0) =
      0xFFFFFFFF := by
  decide +kernel

/-- 95_test_vectors.md L2.45, row 24. -/
theorem test_vmsubwod_q_du_d :
    vectorOf .vmsubwodQDuD
      (vectors 0x10000000000000000 0xFFFFFFFFFFFFFFFF0000000000000000 0x0 0) =
      0x1 := by
  decide +kernel

/-- 95_test_vectors.md L2.46, row 2. -/
theorem test_vhaddw_h_b :
    vectorOf .vhaddwHB
      (vectors 0x7F00 0x7F 0x0 0) =
      0xFE := by
  decide +kernel

/-- 95_test_vectors.md L2.46, row 4. -/
theorem test_vhaddw_h_bu_b :
    vectorOf .vhaddwHBuB
      (vectors 0xFF00 0xFF 0x0 0) =
      0xFE := by
  decide +kernel

/-- 95_test_vectors.md L2.46, row 5. -/
theorem test_vhsubw_h_b :
    vectorOf .vhsubwHB
      (vectors 0x8000 0x7F 0x0 0) =
      0xFF01 := by
  decide +kernel

/-- 95_test_vectors.md L2.46, row 8. -/
theorem test_vhsubw_du_wu :
    vectorOf .vhsubwDuWu
      (vectors 0x0 0x1 0x0 0) =
      0xFFFFFFFFFFFFFFFF := by
  decide +kernel

/-- 95_test_vectors.md L2.46, row 9. -/
theorem test_vaddwev_h_b :
    vectorOf .vaddwevHB
      (vectors 0x180 0x180 0x0 0) =
      0xFF00 := by
  decide +kernel

/-- 95_test_vectors.md L2.46, row 10. -/
theorem test_vaddwod_h_b :
    vectorOf .vaddwodHB
      (vectors 0x180 0x180 0x0 0) =
      0x2 := by
  decide +kernel

/-- 95_test_vectors.md L2.46, row 12. -/
theorem test_vaddwev_h_bu_b :
    vectorOf .vaddwevHBuB
      (vectors 0xFF 0xFF 0x0 0) =
      0xFE := by
  decide +kernel

/-- 95_test_vectors.md L2.46, row 13. -/
theorem test_vsubwev_w_h :
    vectorOf .vsubwevWH
      (vectors 0x8000 0x7FFF 0x0 0) =
      0xFFFF0001 := by
  decide +kernel

/-- 95_test_vectors.md L2.46, row 14. -/
theorem test_vsubwod_wu_hu :
    vectorOf .vsubwodWuHu
      (vectors 0x0 0xFFFF0000 0x0 0) =
      0xFFFF0001 := by
  decide +kernel

/-- 95_test_vectors.md L2.46, row 16. -/
theorem test_vaddwod_qu_du :
    vectorOf .vaddwodQuDu
      (vectors 0xFFFFFFFFFFFFFFFF0000000000000000 0xFFFFFFFFFFFFFFFF0000000000000000 0x0 0) =
      0x1FFFFFFFFFFFFFFFE := by
  decide +kernel

/-- 95_test_vectors.md L2.46, row 17. -/
theorem test_vnarrow_b_h :
    vectorOf .vnarrowBH
      (vectors 0x7FFF801234 0xABCD 0x0 0) =
      0xCD00000000007F8034 := by
  decide +kernel

/-- 95_test_vectors.md L2.46, row 18. -/
theorem test_vnarrows_b_h :
    vectorOf .vnarrowsBH
      (vectors 0xFF00007FFF801234 0x8000 0x0 0) =
      0x8000000000807F807F := by
  decide +kernel

/-- 95_test_vectors.md L2.46, row 19. -/
theorem test_vnarrowu_bu_hu :
    vectorOf .vnarrowuBuHu
      (vectors 0xFF007FFF801234 0x100 0x0 0) =
      0xFF00000000FF7FFFFF := by
  decide +kernel

/-- 95_test_vectors.md L2.46, row 23. -/
theorem test_vnarrows_d_q :
    vectorOf .vnarrowsDQ
      (vectors 0x80000000000000000000000000000000 0x7FFFFFFFFFFFFFFF 0x0 0) =
      0x7FFFFFFFFFFFFFFF8000000000000000 := by
  decide +kernel

/-! ### The TLB and the CSRs -/

/-- R W X, not U, page 7 of ASID 5 to frame 0x80 (95_test_vectors.md L2.47, row 2). -/
def pageEntry : TlbEntry := ⟨true, 0x7, 5, false, 0x80, true, true, true, false⟩

/-- Global, R X, page 0x20 of ASID 9 to frame 0xC0 (95_test_vectors.md L2.47, row 18). -/
def globalEntry : TlbEntry := ⟨true, 0x20, 9, true, 0xC0, true, false, true, false⟩

/-- The parameters of L2.47's second sequence: four TLB entries, else the defaults. -/
def four : Params := ⟨128, 4, 12, 48, 48, 10, .after⟩

/-- A unit of four TLB entries with the two entries, a request in flight. -/
def mapped (asid : BitVec 16) (r : Request) : State :=
  { State.resetWith four with
    asid := asid
    tlb := [pageEntry, globalEntry, TlbEntry.invalid, TlbEntry.invalid]
    req := r
    busy := 1 }

/-- A request with three scalars, an immediate and a level. -/
def ask (a b c imm : Word) (p : Priv) : Request :=
  { Request.zero with cmd := 0x30900000, xa := a, xb := b, xc := c, imm := imm, priv := p, pc := 0x100 }

/-- The valid entries after a command, as (slot, VPN, ASID, PPN). -/
def entriesOf (t : State) : List (Nat × Nat × Nat) := (t.tlb.filter fun e => e.v).map fun e => (e.vpn.toNat, e.asid.toNat, e.ppn.toNat)

/-- L2.47, row 3. -/
theorem test_tlblookup_r : scalarOf .tlblookupR (mapped 0 (ask 0x7123 5 0 0 .K)) = (0x80123, 0) := by decide +kernel

/-- L2.47, row 4: bits 63:48 of the address are ignored. -/
theorem test_tlblookup_w : scalarOf .tlblookupW (mapped 0 (ask 0xFFFF000000007123 5 0 0 .K)) = (0x80123, 0) := by
  decide +kernel

/-- L2.47, row 20: a global entry for another ASID. -/
theorem test_tlblookup_x : scalarOf .tlblookupX (mapped 0 (ask 0x20000 3 0 0 .K)) = (0xC0000, 0) := by decide +kernel

/-- L2.47, rows 6 and 11: no user page, then no ASID. -/
theorem test_tlblookup_r_faults :
    faultOf .tlblookupR (mapped 0 (ask 0x7123 5 0 0 .U)) = (6, 0x7123) ∧
      faultOf .tlblookupR (mapped 0 (ask 0x7000 0x400 0 0 .K)) = (4, 0x400) := by decide +kernel

/-- L2.47, row 10: the entry of the same page and ASID is replaced in place. -/
theorem test_tlbfill :
    scalarOf .tlbfill (mapped 0 (ask 0x7000 5 0xB0001 0 .K)) = (0, 0) ∧
      entriesOf (after .tlbfill (mapped 0 (ask 0x7000 5 0xB0001 0 .K))) = [(0x7, 5, 0xB0), (0x20, 9, 0xC0)] := by
  decide +kernel

/-- L2.47, capacity eviction, row 5: no conflict, no invalid slot; slot RR goes and RR advances. -/
theorem test_tlbfill_evicts :
    let s := { mapped 0 (ask 0x9000 1 0x9001 0 .K) with
      tlb := [pageEntry, globalEntry, { pageEntry with vpn := 3 }, { pageEntry with vpn := 4 }] }
    (after .tlbfill s).rr = 1 ∧ entriesOf (after .tlbfill s) = [(9, 1, 9), (0x20, 9, 0xC0), (3, 5, 0x80), (4, 5, 0x80)] := by
  decide +kernel

/-- L2.47, rows 16 and 14: the ASID is the CSR's. -/
theorem test_tlbprobe :
    scalarOf .tlbprobe (mapped 5 (ask 0x7000 0 0 0 .K)) = (0, 0) ∧
      scalarOf .tlbprobe (mapped 0 (ask 0x7000 0 0 0 .K)) = (0x8000000000000000, 0) := by decide +kernel

/-- L2.47, row 22: a global entry is removed whatever the ASID. -/
theorem test_tlbinv_page :
    entriesOf (after .tlbinvPage (mapped 0 (ask 0x20000 0x2A 0 0 .K))) = [(0x7, 5, 0x80)] := by decide +kernel

/-- L2.47, row 19: a global entry survives. -/
theorem test_tlbinv_asid : entriesOf (after .tlbinvAsid (mapped 0 (ask 0 9 0 0 .K))) = entriesOf (mapped 0 (ask 0 9 0 0 .K)) := by
  decide +kernel

/-- L2.47, row 24. -/
theorem test_tlbinv_global : entriesOf (after .tlbinvGlobal (mapped 0 (ask 0 0 0 0 .K))) = [(0x7, 5, 0x80)] := by
  decide +kernel

/-- L2.47, row 26. -/
theorem test_tlbinv_all : entriesOf (after .tlbinvAll (mapped 0 (ask 0 0 0 0 .K))) = [] := by decide +kernel

/-- L2.48, rows 2, 4 and 11. -/
theorem test_csr :
    scalarOf .csrwr (mapped 0 (ask 0x1F1F031F 0 0 0 .U)) = (0, 0x1F1F031F) ∧
      faultOf .csrwr (mapped 0 (ask 0x20 0 0 0 .K)) = (4, 0x20) ∧
      faultOf .csrrd (mapped 0 (ask 0 0 0 2 .U)) = (4, 2) := by decide +kernel

/-- L2.48, rows 7, 9 and 10: the level, the largest ASID, one more. -/
theorem test_csr_asid :
    faultOf .csrrd (mapped 0 (ask 0 0 0 1 .U)) = (2, 1) ∧
      (after .csrwr (mapped 0 (ask 0x3FF 0 0 1 .K))).asid = 0x3FF ∧
      faultOf .csrwr (mapped 0 (ask 0x400 0 0 1 .K)) = (4, 0x400) := by decide +kernel

/-! ### Cycles -/

/-- A request of `fadd.s` 1.0 + 2.0. -/
def addition : Request := { Request.zero with cmd := 0x10100000, xa := 0x3F800000, xb := 0x40000000 }

/-- A unit with no request in flight, at which the inputs come and whose next request takes `n + 1` cycles. -/
def offered (cs : List Cycle) (n : Nat) : State := { State.reset with inputs := cs, lats := [n] }

/-- 95_test_vectors.md L2.40, row 1, run as two cycles: the request is accepted and answered in the next cycle. -/
theorem test_two_cycles :
    (match Host.Core.run Sys2Proof.core 2 (offered [⟨false, some addition⟩] 0) with
      | .next t => t.respValid && t.resp.xr == 0x40400000
      | _ => false) = true := by decide +kernel

/-- The word placed by withFetchWord is run by the next step, as the first after reset (30_encoding.md R166). -/
theorem test_fetch_word :
    (match step (State.reset.withFetchWord 32 0x40100000) with
      | .next t => t.respValid && t.resp.status == .OK
      | _ => false) = true := by decide +kernel

/-! ### The hypotheses of the statements are met -/

/-- The parameters of a legal unit; for ResetMeetsInvariant, StepNeverStops and the lane statements, at both VLEN. -/
theorem witness_legal_units :
    Params.default.legal = true ∧ (Params.legal ⟨256, 1, 30, 31, 64, 16, .before⟩) = true ∧
      State.reset.cfg.legal = true ∧ (vectors 0x80 0xFF 0x7F 0).cfg.legal = true ∧
      ({ State.reset with cfg := ⟨256, 1024, 12, 64, 13, 1, .after⟩ } : State).cfg.legal = true := by decide +kernel

/-- StepNeverStops: the stop. -/
theorem witness_StepNeverStops : ({ State.reset with cfg := { Params.default with vlen := 64 } } : State).cfg.legal = false := by
  decide +kernel

/-- The mapped state meets the invariant, whatever the request and a legal ASID. -/
theorem mapped_inv (a : BitVec 16) (r : Request) (h : a.toNat < 1024) : (mapped a r).Inv where
  cfgLegal := by change four.legal = true; decide
  fcsrLegal := by change (0 : BitVec 32) &&& ~~~fcsrMask = 0; decide
  asidFits := h
  tlbLength := rfl
  tlbFits := by
    change ∀ e ∈ [pageEntry, globalEntry, TlbEntry.invalid, TlbEntry.invalid], e.Fits four
    unfold TlbEntry.Fits
    decide
  tlbUnique := by
    intro i j e f asid vpn hi hj he hf
    rw [TlbEntry.hits_iff] at he hf
    change [pageEntry, globalEntry, TlbEntry.invalid, TlbEntry.invalid][i]? = some e at hi
    change [pageEntry, globalEntry, TlbEntry.invalid, TlbEntry.invalid][j]? = some f at hj
    rcases i with _ | _ | _ | _ | i <;> rcases j with _ | _ | _ | _ | j <;> simp at hi hj <;> subst hi hj <;>
      simp [pageEntry, globalEntry, TlbEntry.invalid] at he hf ⊢
    · exact absurd (he.1.trans hf.symm) (by decide)
    · exact absurd (hf.1.trans he.symm) (by decide)
  rrFits := by change 0 < 4; decide
  respIdle := by intro h; simp [mapped, State.resetWith] at h

/-- StepKeepsInvariant. -/
theorem witness_StepKeepsInvariant :
    (mapped 5 (ask 0x7000 5 0xB0001 0 .K)).Inv ∧ ∃ t, step (mapped 5 (ask 0x7000 5 0xB0001 0 .K)) = .next t :=
  ⟨mapped_inv _ _ (by decide), _, rfl⟩

/-- StepRunsDecodedCommand: a due response, and a placed word. -/
theorem witness_StepRunsDecodedCommand :
    (scalars 0 0x3F800000 0x3F800000 0).cfg.legal = true ∧ (mapped 5 (ask 0x7000 0 0 0 .K)).busy = 1 ∧
      (inputAt (mapped 5 (ask 0x7000 0 0 0 .K)) 0).rst = false ∧
      decode (mapped 5 (ask 0x7000 0 0 0 .K)).req.cmd = .ok .tlbprobe ∧
      decode (BitVec.ofNat 32 (0x23240000 % 2 ^ 32)) = .ok .vnarrowuDuQu := ⟨rfl, rfl, rfl, rfl, rfl⟩

/-- IllegalWordFaults: the word 0 is the word of no command. -/
theorem witness_IllegalWordFaults :
    (scalars 0 0 0 0).cfg.legal = true ∧ (scalars 0 0 0 0).busy = 1 ∧ (inputAt (scalars 0 0 0 0) 0).rst = false ∧
      ∀ i, (scalars 0 0 0 0).req.cmd ≠ encode i :=
  ⟨rfl, rfl, rfl, fun i h => by cases i <;> exact absurd h (by decide)⟩

/-- AcceptSamplesEveryInput: a request is offered, and none is. -/
theorem witness_AcceptSamplesEveryInput :
    (offered [⟨false, some addition⟩] 3).cfg.legal = true ∧ (offered [⟨false, some addition⟩] 3).busy = 0 ∧
      (inputAt (offered [⟨false, some addition⟩] 3) 0).rst = false ∧
      (inputAt (offered [⟨false, some addition⟩] 3) 0).req = some addition ∧ (inputAt (offered [] 3) 0).rst = false ∧
      (inputAt (offered [] 3) 0).req = none := by decide +kernel

/-- OneResponseAfterLatCycles, with LAT 1 and LAT 3. -/
theorem witness_OneResponseAfterLatCycles :
    (offered [⟨false, some addition⟩] 2).cfg.legal = true ∧ (offered [⟨false, some addition⟩] 2).busy = 0 ∧
      (inputAt (offered [⟨false, some addition⟩] 2) 0).req = some addition ∧
      lat (offered [⟨false, some addition⟩] 0) = 1 ∧ lat (offered [⟨false, some addition⟩] 2) = 3 ∧
      ∀ k ≤ lat (offered [⟨false, some addition⟩] 2), (inputAt (offered [⟨false, some addition⟩] 2) k).rst = false := by
  decide +kernel

/-- BusyUnitIgnoresOffers: the last cycle before the response. -/
theorem witness_BusyUnitIgnoresOffers :
    let s := { mapped 5 (ask 0x7000 0 0 0 .K) with inputs := [⟨false, some addition⟩] }
    s.busy ≠ 0 ∧ s.inputs = ⟨false, some addition⟩ :: [] ∧ (inputAt s 0).rst = false ∧ ∃ t, step s = .next t :=
  ⟨by decide, rfl, rfl, _, rfl⟩

/-- ResetAbandonsRequest: the response would be due in the cycle. -/
theorem witness_ResetAbandonsRequest :
    let s := { mapped 5 (ask 0x7000 0 0 0 .K) with inputs := [⟨true, some addition⟩] }
    s.cfg.legal = true ∧ (inputAt s 0).rst = true := by decide +kernel

/-- DebugPortReads: a valid entry, an invalid one and an index past the end. -/
theorem witness_DebugPortReads :
    ({ mapped 5 (ask 0 0 0 0 .K) with busy := 0 } : State).Inv ∧ (mapped 5 (ask 0 0 0 0 .K)).tlb[1]? = some globalEntry ∧
      globalEntry.v = true ∧ (mapped 5 (ask 0 0 0 0 .K)).tlb[3]? = some TlbEntry.invalid ∧ TlbEntry.invalid.v = false ∧
      (mapped 5 (ask 0 0 0 0 .K)).cfg.ntlb ≤ 4 :=
  ⟨{ mapped_inv 5 (ask 0 0 0 0 .K) (by decide) with respIdle := fun _ => rfl }, rfl, rfl, rfl, rfl, by decide⟩

/-- UnnamedInputsAreIgnored: a request that differs from the one in flight in every port that `fclass.s` does not read, CMD and
PRIV too, and one that differs in every port that tlbprobe does not read. -/
theorem witness_UnnamedInputsAreIgnored :
    (∃ t, exec .fclassS (scalars 0 0x3F800000 1 2) = .next t) ∧ ¬ReadsXb .fclassS ∧ ¬ReadsXc .fclassS ∧ ¬ReadsImm .fclassS ∧
      ¬Simd .fclassS ∧ ¬(Tlb .fclassS ∨ Csr .fclassS) ∧ Instr.fclassS ∉ kernelOnly ∧
      ({ Request.zero with xa := 0x3F800000, xb := 7, va := 9, imm := 3, pc := 0x1000 } : Request).xa =
        (scalars 0 0x3F800000 1 2).req.xa ∧
      (∃ t, exec .tlbprobe (mapped 5 (ask 0x7000 0 0 0 .K)) = .next t) ∧ ReadsXa .tlbprobe ∧ ¬ReadsXb .tlbprobe ∧
      ¬ReadsXc .tlbprobe ∧ (ask 0x7000 8 9 10 .K).cmd = (ask 0x7000 0 0 0 .K).cmd := by
  refine ⟨⟨_, exec_after _ _ (by decide +kernel)⟩, ?_, ?_, ?_, ?_, ?_, by decide, rfl, ⟨_, rfl⟩, ?_, ?_, ?_, rfl⟩ <;>
    simp only [ReadsXa, ReadsXb, ReadsXc, ReadsImm, hasOp, Fpu, Simd, Tlb, Spec.Csr] <;> decide

/-- FaultHasNoPartialEffect, FaultsComeFromListedCommands, FlagsAreSticky and UnitsTouchOnlyTheirState: a fault of every unit, with the codes 7, 3, 2, 4, 5, 6 and 4. -/
theorem witness_faults :
    (∃ t, exec .fdivS (scalars 8 0x3F800000 0 0) = .next t ∧ t.resp.status = .FAULT ∧ t.resp.fcode = 7) ∧
      (∃ t, exec .vminiB (vectors 1 0 0 16) = .next t ∧ t.resp.status = .FAULT ∧ t.resp.fcode = 3) ∧
      (∃ t, exec .tlbprobe (mapped 5 (ask 0x7000 0 0 0 .U)) = .next t ∧ t.resp.status = .FAULT ∧ t.resp.fcode = 2) ∧
      (∃ t, exec .tlbfill (mapped 5 (ask 0x7000 0x400 0 0 .K)) = .next t ∧ t.resp.status = .FAULT ∧ t.resp.fcode = 4) ∧
      (∃ t, exec .tlblookupR (mapped 5 (ask 0x8000 5 0 0 .K)) = .next t ∧ t.resp.status = .FAULT ∧ t.resp.fcode = 5) ∧
      (∃ t, exec .tlblookupW (mapped 5 (ask 0x20000 0 0 0 .K)) = .next t ∧ t.resp.status = .FAULT ∧ t.resp.fcode = 6) ∧
      (∃ t, exec .csrwr (mapped 5 (ask 0x400 0 0 1 .K)) = .next t ∧ t.resp.status = .FAULT ∧ t.resp.fcode = 4) ∧
      Fpu .fdivS ∧ Simd .vminiB ∧ Tlb .tlbprobe ∧ Csr .csrwr := by
  refine ⟨⟨_, exec_after _ _ (by decide +kernel), ?_⟩, ⟨_, rfl, ?_⟩, ⟨_, rfl, ?_⟩, ⟨_, rfl, ?_⟩, ⟨_, rfl, ?_⟩,
    ⟨_, rfl, ?_⟩, ⟨_, rfl, ?_⟩, rfl, rfl, rfl, rfl⟩ <;> decide +kernel

/-- FlagsAreSticky and UnitsTouchOnlyTheirState: a command of every unit completes, one with a
FLAGS bit set before. -/
theorem witness_completions :
    (after .fdivS (scalars 0x00100000 0x3F800000 0x40400000 0)).resp.status = .OK ∧
      ((0x00100000 : BitVec 32).extractLsb' 16 5).getLsbD 4 = true ∧
      (∃ t, exec .fdivS (scalars 0x00100000 0x3F800000 0x40400000 0) = .next t) ∧
      (∃ t, exec .vaddB (vectors 1 2 0 0) = .next t) ∧
      (∃ t, exec .tlbinvAll (mapped 5 (ask 0 0 0 0 .K)) = .next t) ∧
      (∃ t, exec .csrwr (mapped 5 (ask 1 0 0 0 .U)) = .next t) ∧
      (∃ t, exec .csrrd (mapped 5 (ask 0 0 0 1 .K)) = .next t) ∧ Instr.fdivS ≠ .csrwr := by
  refine ⟨by decide +kernel, by decide, ⟨_, exec_after _ _ (by decide +kernel)⟩,
    ⟨_, rfl⟩, ⟨_, rfl⟩, ⟨_, rfl⟩, ⟨_, rfl⟩, by decide⟩

/-- UserRequestsCannotTouchKernelState and KernelOnlyCommandsTrapAtUser: a request at U, and one at K. -/
theorem witness_levels :
    (mapped 5 (ask 0x7000 0 0 1 .U)).req.priv = .U ∧ (mapped 5 (ask 0x7000 0 0 1 .U)).req.imm = 1 ∧
      (∃ t, exec .tlbprobe (mapped 5 (ask 0x7000 0 0 1 .U)) = .next t) ∧
      (mapped 5 (ask 0x7000 0 0 0 .K)).req.priv = .K ∧ (∃ t, exec .csrwr (mapped 5 (ask 0x7000 0 0 0 .K)) = .next t) ∧
      (mapped 5 (ask 0x7000 0 0 0 .K)).req.imm = 0 ∧ ∃ t, exec .tlblookupX (mapped 5 (ask 0x7000 0 0 0 .K)) = .next t :=
  ⟨rfl, rfl, ⟨_, rfl⟩, rfl, ⟨_, rfl⟩, rfl, _, rfl⟩

/-! Floating-point patterns: 1.0, 2.0, -1.0, the largest finite, the least subnormal, zeros, infinities and NaNs. -/

/-- The value from the three parts. -/
theorem real_eq (F : Fmt) (a : Word) (s m : Nat) (e : Int) (hs : signOf F a = s) (hm : significand F a = m) (he : ulpExp F a = e) :
    real F a = (-1 : ℚ) ^ s * (m : ℚ) * (2 : ℚ) ^ e := by rw [real, hs, hm, he]

theorem real_one : real .S 0x3F800000 = 1 := by
  rw [real_eq .S _ 0 (2 ^ 23) (-23) (by decide) (by decide) (by decide)]; norm_num

theorem real_one_next : real .S 0x3F800001 = 8388609 / 8388608 := by
  rw [real_eq .S _ 0 (2 ^ 23 + 1) (-23) (by decide) (by decide) (by decide)]; norm_num

theorem real_two : real .S 0x40000000 = 2 := by
  rw [real_eq .S _ 0 (2 ^ 23) (-22) (by decide) (by decide) (by decide)]; norm_num

theorem real_minus_one : real .S 0xBF800000 = -1 := by
  rw [real_eq .S _ 1 (2 ^ 23) (-23) (by decide) (by decide) (by decide)]; norm_num

theorem real_zero : real .S 0 = 0 ∧ real .S 0x80000000 = 0 := by
  rw [real_eq .S 0 0 0 (-149) (by decide) (by decide) (by decide),
    real_eq .S 0x80000000 1 0 (-149) (by decide) (by decide) (by decide)]; norm_num

theorem real_d_zero : real .D 0x8000000000000000 = 0 := by
  rw [real_eq .D _ 1 0 (-1074) (by decide) (by decide) (by decide)]; norm_num

theorem real_d_three_halves : real .D 0x3FF8000000000000 = 3 / 2 := by
  rw [real_eq .D _ 0 (2 ^ 52 + 2 ^ 51) (-52) (by decide) (by decide) (by decide)]; norm_num

theorem real_d_int_max : real .D 0x41DFFFFFFFE00000 = 4294967295 / 2 := by
  rw [real_eq .D _ 0 0x1FFFFFFFE00000 (-22) (by decide) (by decide) (by decide)]; norm_num

/-- The patterns of the witnesses below are finite: 1.0, 2.0, -1.0, zeros, the extremes of the subnormals and of the
normals. -/
theorem finite_patterns :
    IsFinite .S 0x3F800000 ∧ IsFinite .S 0x40000000 ∧ IsFinite .S 0xBF800000 ∧ IsFinite .S 0 ∧ IsFinite .S 0x80000000 ∧
      IsFinite .S 1 ∧ IsFinite .S 0x007FFFFF ∧ IsFinite .S 0x00800000 ∧ IsFinite .S 0xFF7FFFFF ∧ IsFinite .D 0x3FF8000000000000 ∧
      IsFinite .D 0x7FEFFFFFFFFFFFFF := by
  refine ⟨?_, ?_, ?_, ?_, ?_, ?_, ?_, ?_, ?_, ?_, ?_⟩ <;> simp [IsFinite, IsPattern, expOf, topExp]

/-- The infinities, quiet NaNs and signalling NaNs of the witnesses below. -/
theorem special_patterns :
    IsInfinite .S 0x7F800000 ∧ IsInfinite .S 0xFF800000 ∧ signOf .S 0x7F800000 = 0 ∧ signOf .S 0xFF800000 = 1 ∧
      IsInfinite .D 0xFFF0000000000000 ∧ IsNan .S 0x7FC00002 ∧ ¬IsSignalling .S 0x7FC00002 ∧ IsSignalling .S 0x7F800001 ∧
      IsSignalling .D 0x7FF0000000000001 ∧ ¬IsNan .S 0x3F800000 ∧ ¬IsNan .S 0x7F800000 ∧ ¬IsSignalling .S 0x3F800000 ∧
      IsNan .D 0xFFF8000020000000 := by
  refine ⟨?_, ?_, ?_, ?_, ?_, ?_, ?_, ?_, ?_, ?_, ?_, ?_, ?_⟩ <;>
    simp [IsInfinite, IsNan, IsSignalling, signOf, expOf, fracOf, topExp, quietOf]

/-- RoundingExactWhenRepresentable: 2/2 is the value of 1.0, in both formats. -/
theorem witness_RoundingExactWhenRepresentable :
    0 < (⟨2, 2⟩ : Exact).den ∧ (⟨2, 2⟩ : Exact).num ≠ 0 ∧ IsFinite .S 0x3F800000 ∧
      (⟨2, 2⟩ : Exact).real = real .S 0x3F800000 ∧ (⟨3, 2⟩ : Exact).real = real .D 0x3FF8000000000000 := by
  refine ⟨by decide, by decide, finite_patterns.1, ?_, ?_⟩
  · rw [real_one]; norm_num [Exact.real]
  · rw [real_d_three_halves]; norm_num [Exact.real]

/-- RoundingToNearestIsNearest: the bound from which RNE overflows, and below it. -/
theorem witness_RoundingToNearestIsNearest :
    greatestTie .S ≤ |(⟨(2 ^ 25 - 1) * 2 ^ 103, 1⟩ : Exact).real| ∧ |(⟨(2 ^ 25 - 2) * 2 ^ 103, 1⟩ : Exact).real| < greatestTie .S ∧
      |(⟨-1, 3⟩ : Exact).real| < greatestTie .S := by
  refine ⟨?_, ?_, ?_⟩ <;> norm_num [greatestTie, precOf, emaxOf, Exact.real, abs_of_pos, abs_of_neg]

/-- RoundingExceptionsAreTrue, TININESS = AFTER: (1 - 2^-26) * 2^-126 is below 2^-126, and rounds to 2^24 units of 2^-150, that
is to 2^-126; the result is inexact (95_test_vectors.md L2.41, row 27). -/
theorem witness_RoundingExceptionsAreTrue :
    (2 : ℚ) ^ (-127 : Int) ≤ |(⟨2 ^ 26 - 1, 2 ^ 152⟩ : Exact).real| ∧ |(⟨2 ^ 26 - 1, 2 ^ 152⟩ : Exact).real| < (2 : ℚ) ^ (-126 : Int) ∧
      RoundsTo .RNE ((⟨2 ^ 26 - 1, 2 ^ 152⟩ : Exact).real / (2 : ℚ) ^ ((-127 : Int) - precOf .S + 1)) 16777216 ∧
      (roundF .S .after .RNE ⟨2 ^ 26 - 1, 2 ^ 152⟩).2 = 0b00001 ∧ (roundF .S .before .RNE ⟨2 ^ 26 - 1, 2 ^ 152⟩).2 = 0b00011 := by
  refine ⟨?_, ?_, .inl ?_, by decide +kernel, by decide +kernel⟩ <;>
    norm_num [precOf, Exact.real, abs_of_pos, abs_of_neg]

/-- RoundingToNearestIsNearest, DirectedRoundingBrackets and RoundingExceptionsAreTrue: 1/3, a tie 1 + 2^-24 whose other
neighbour is a finite value of the same distance, half the least subnormal, and a real that overflows. -/
theorem witness_rounding :
    0 < (⟨1, 3⟩ : Exact).den ∧ (⟨1, 3⟩ : Exact).num ≠ 0 ∧ (roundF .S .after .RNE ⟨1, 3⟩).2 &&& 0b00100 = 0 ∧
      (roundF .S .after .RNE ⟨16777217, 16777216⟩).1 = 0x3F800000 ∧
      (roundF .S .after .RNE ⟨16777217, 16777216⟩).2 &&& 0b00100 = 0 ∧
      |(⟨16777217, 16777216⟩ : Exact).real - real .S 0x3F800000| = |(⟨16777217, 16777216⟩ : Exact).real - real .S 0x3F800001| ∧
      real .S 0x3F800001 ≠ real .S 0x3F800000 ∧ IsFinite .S 0x3F800001 ∧
      (roundF .S .before .RNE ⟨-1, 2 ^ 150⟩) = (0x80000000, 0b00011) ∧
      (roundF .D .before .RP ⟨2 ^ 1024, 1⟩).2.getLsbD 2 = true := by
  refine ⟨by decide, by decide, by decide +kernel, by decide +kernel, by decide +kernel, ?_, ?_, ?_, by decide +kernel,
    by decide +kernel⟩
  · rw [real_one, real_one_next]; norm_num [Exact.real, abs_of_pos, abs_of_neg]
  · rw [real_one, real_one_next]; norm_num
  · simp [IsFinite, IsPattern, expOf, topExp]

/-- ArithmeticRoundsTheExactResult: a is 1.0, b is 2.0 and c is 1.0, with the real of each clause. -/
theorem witness_ArithmeticRoundsTheExactResult :
    IsFinite .S 0x3F800000 ∧ IsFinite .S 0x40000000 ∧
      (⟨3, 1⟩ : Exact).real = real .S 0x3F800000 + real .S 0x40000000 ∧
      (⟨-1, 1⟩ : Exact).real = real .S 0x3F800000 - real .S 0x40000000 ∧
      (⟨2, 1⟩ : Exact).real = real .S 0x3F800000 * real .S 0x40000000 ∧ real .S 0x40000000 ≠ 0 ∧
      (⟨1, 2⟩ : Exact).real = real .S 0x3F800000 / real .S 0x40000000 ∧
      (⟨3, 1⟩ : Exact).real = real .S 0x3F800000 * real .S 0x40000000 + real .S 0x3F800000 := by
  refine ⟨finite_patterns.1, finite_patterns.2.1, ?_⟩
  rw [real_one, real_two]
  norm_num [Exact.real]

/-- ZeroResultsHaveTheRightSign: 1 + -1, 1 - 1, -0 + -0, -0 - 0, 0 times -1, 0 over -1, 1 times -1 plus 1 and 0 times -1
plus -0; and a product of two least subnormals is a zero by rounding. -/
theorem witness_ZeroResultsHaveTheRightSign :
    real .S 0x3F800000 + real .S 0xBF800000 = 0 ∧ real .S 0x3F800000 - real .S 0x3F800000 = 0 ∧
      real .S 0x80000000 + real .S 0x80000000 = 0 ∧ real .S 0x80000000 - real .S 0 = 0 ∧
      real .S 0 * real .S 0xBF800000 = 0 ∧ real .S 0xBF800000 ≠ 0 ∧ real .S 0 = 0 ∧
      real .S 0x3F800000 * real .S 0xBF800000 + real .S 0x3F800000 = 0 ∧
      real .S 0 * real .S 0xBF800000 + real .S 0x80000000 = 0 ∧
      expOf .S (mulCore .S .after .RNE 1 1).1 = 0 ∧ fracOf .S (mulCore .S .after .RNE 1 1).1 = 0 ∧
      expOf .S (divCore .S .after .RNE 1 0x7F000000).1 = 0 ∧ fracOf .S (divCore .S .after .RNE 1 0x7F000000).1 = 0 ∧
      ¬IsNan .S 1 ∧ ¬IsNan .S 0x7F000000 := by
  rw [real_one, real_minus_one, real_zero.1, real_zero.2]
  refine ⟨by norm_num, by norm_num, by norm_num, by norm_num, by norm_num, by norm_num, rfl, by norm_num, by norm_num,
    by decide +kernel, by decide +kernel, by decide +kernel, by decide +kernel, ?_, ?_⟩ <;>
    simp [IsNan, expOf, fracOf, topExp]

/-- NanOperandsPropagate: for each of the cases, operands that are in it. -/
theorem witness_NanOperandsPropagate :
    IsSignalling .S 0x7F800001 ∧ IsNan .S 0x7FC00002 ∧ ¬IsSignalling .S 0x7FC00002 ∧ ¬IsNan .S 0x3F800000 ∧
      ¬IsSignalling .S 0x3F800000 ∧ IsInfinite .S 0x7F800000 ∧ ¬IsNan .S 0x7F800000 ∧ expOf .S 0 = 0 ∧ fracOf .S 0 = 0 ∧ ¬IsNan .S 0 := by
  refine ⟨?_, ?_, ?_, ?_, ?_, ?_, ?_, ?_, ?_, ?_⟩ <;> simp [IsInfinite, IsNan, IsSignalling, expOf, fracOf, topExp, quietOf]

/-- InfinitiesAndDivisionByZero: infinities of both signs, a zero, and a finite nonzero value; 1 times +inf is an infinite
product of the sign 0, and c each of the infinities, a finite value and no NaN. -/
theorem witness_InfinitiesAndDivisionByZero :
    IsInfinite .S 0x7F800000 ∧ IsInfinite .S 0xFF800000 ∧ signOf .S 0x7F800000 ≠ signOf .S 0xFF800000 ∧ IsFinite .S 0 ∧
      IsZero .S 0 ∧ IsZero .S 0x80000000 ∧ IsFinite .S 0x3F800000 ∧ ¬IsNan .S 0x3F800000 ∧ ¬IsZero .S 0x3F800000 ∧
      signOf .S 0xFF800000 ≠ (signOf .S 0x3F800000 + signOf .S 0x7F800000) % 2 ∧
      signOf .S 0x7F800000 = (signOf .S 0x3F800000 + signOf .S 0x7F800000) % 2 := by
  refine ⟨special_patterns.1, special_patterns.2.1, by decide, finite_patterns.2.2.2.1, ⟨rfl, rfl⟩, ⟨rfl, rfl⟩,
    finite_patterns.1, special_patterns.2.2.2.2.2.2.2.2.2.1, fun h => absurd h.1 (by decide), by decide, by decide⟩

/-- MinMaxNeverReturnsNanBesideNumber: lesser, greater and equal values, zeros of both signs, an infinity beside a finite value
and beside the other, magnitudes in each relation, a NaN beside a number, two NaNs. -/
theorem witness_MinMaxNeverReturnsNanBesideNumber :
    IsNumber .S 0x3F800000 ∧ IsNumber .S 0x7F800000 ∧ XLt .S 0x3F800000 0x40000000 ∧ XLt .S 0xFF800000 0x7F800000 ∧
      XLt .S 0x3F800000 0x7F800000 ∧ ¬XLt .S 0 0x80000000 ∧ ¬XLt .S 0x80000000 0 ∧ signOf .S 0 ≠ signOf .S 0x80000000 ∧
      ¬XLt .S 0x7F800000 0x7F800000 ∧ XLtMag .S 0x3F800000 0x40000000 ∧ XLtMag .S 0x3F800000 0xFF800000 ∧
      ¬XLtMag .S 0x3F800000 0xBF800000 ∧ ¬XLtMag .S 0xBF800000 0x3F800000 ∧ ¬XLtMag .S 0xFF800000 0x7F800000 ∧
      IsFinite .S 0x3F800000 ∧ IsNan .S 0x7FC00002 ∧ ¬IsNan .S 0x3F800000 := by
  have h1 : ¬IsInfinite .S 0x3F800000 := fun h => absurd h.1 (by decide)
  have h2 : ¬IsInfinite .S 0x40000000 := fun h => absurd h.1 (by decide)
  have h3 : ¬IsInfinite .S 0 := fun h => absurd h.1 (by decide)
  have h4 : ¬IsInfinite .S 0x80000000 := fun h => absurd h.1 (by decide)
  have h5 : ¬IsInfinite .S 0xBF800000 := fun h => absurd h.1 (by decide)
  have p := special_patterns.1
  have n := special_patterns.2.1
  refine ⟨⟨by unfold IsPattern; decide, special_patterns.2.2.2.2.2.2.2.2.2.1⟩,
    ⟨by unfold IsPattern; decide, special_patterns.2.2.2.2.2.2.2.2.2.2.1⟩,
    ⟨fun h => h1 h.1, fun h => h2 h.1, .inr (.inr ?_)⟩, ⟨fun h => absurd h.2 (by decide), fun h => absurd h.2 (by decide), .inl n⟩,
    ⟨fun h => h1 h.1, fun h => absurd h.2 (by decide), .inr (.inl p)⟩,
    fun h => h.2.2.elim h3 fun h => h.elim h4 fun h => ?_, fun h => h.2.2.elim h4 fun h => h.elim h3 fun h => ?_, by decide,
    fun h => h.1 ⟨p, rfl⟩, ⟨h1, .inr ?_⟩, ⟨h1, .inl n⟩, fun h => h.2.elim h5 fun h => ?_, fun h => h.2.elim h1 fun h => ?_,
    fun h => h.1 n, finite_patterns.1, special_patterns.2.2.2.2.2.1, special_patterns.2.2.2.2.2.2.2.2.2.1⟩
  · rw [real_one, real_two]; norm_num
  · rw [real_zero.1, real_zero.2] at h; exact absurd h (by decide)
  · rw [real_zero.1, real_zero.2] at h; exact absurd h (by decide)
  · rw [real_one, real_two]; norm_num
  · rw [real_one, real_minus_one] at h; norm_num at h
  · rw [real_one, real_minus_one] at h; norm_num at h

/-- ComparisonsDecideTheRelation: finite values in a relation and not in it, infinities of the same and of different signs,
a NaN. -/
theorem witness_ComparisonsDecideTheRelation :
    IsFinite .S 0x3F800000 ∧ IsFinite .S 0x40000000 ∧ relOn .LT (real .S 0x3F800000) (real .S 0x40000000) ∧
      ¬relOn .GT (real .S 0x3F800000) (real .S 0x40000000) ∧ IsInfinite .S 0x7F800000 ∧ IsInfinite .S 0xFF800000 ∧
      signOf .S 0x7F800000 < signOf .S 0xFF800000 ∧ IsNan .S 0x7FC00002 := by
  refine ⟨finite_patterns.1, finite_patterns.2.1, ?_, ?_, special_patterns.1, special_patterns.2.1, by decide,
    special_patterns.2.2.2.2.2.1⟩ <;> rw [real_one, real_two] <;> norm_num [relOn]

/-- WideningConversionIsExact: a subnormal, an infinity, NaNs of both formats, a binary64 zero and a nonzero real. -/
theorem witness_WideningConversionIsExact :
    IsFinite .S 1 ∧ IsInfinite .S 0x7F800000 ∧ IsInfinite .D 0xFFF0000000000000 ∧ IsNan .S 0x7FC00002 ∧ IsNan .D 0xFFF8000020000000 ∧
      IsFinite .D 0x8000000000000000 ∧ real .D 0x8000000000000000 = 0 ∧ IsFinite .D 0x3FF8000000000000 ∧
      (⟨3, 2⟩ : Exact).real = real .D 0x3FF8000000000000 := by
  refine ⟨finite_patterns.2.2.2.2.2.1, special_patterns.1, special_patterns.2.2.2.2.1, special_patterns.2.2.2.2.2.1,
    special_patterns.2.2.2.2.2.2.2.2.2.2.2.2, ?_, ?_, finite_patterns.2.2.2.2.2.2.2.2.2.1, ?_⟩
  · simp [IsFinite, IsPattern, expOf, topExp]
  · exact real_d_zero
  · rw [real_d_three_halves]; norm_num [Exact.real]

/-- FloatToIntegerRoundsAsNamed: 3/2 is rounded to 1, 2, 1 and 2; 2^31 - 1/2 to 2^31 under RNE, which is above the range of
32 bits. -/
theorem witness_FloatToIntegerRoundsAsNamed :
    IsFinite .D 0x3FF8000000000000 ∧ (((1 : Int) : ℚ) ≤ real .D 0x3FF8000000000000 ∧ real .D 0x3FF8000000000000 < ((1 : Int) : ℚ) + 1) ∧
      (((2 : Int) : ℚ) - 1 < real .D 0x3FF8000000000000 ∧ real .D 0x3FF8000000000000 ≤ ((2 : Int) : ℚ)) ∧
      (|((1 : Int) : ℚ)| ≤ |real .D 0x3FF8000000000000| ∧ |real .D 0x3FF8000000000000| < |((1 : Int) : ℚ)| + 1 ∧
        0 ≤ ((1 : Int) : ℚ) * real .D 0x3FF8000000000000) ∧
      |real .D 0x3FF8000000000000 - ((2 : Int) : ℚ)| = 1 / 2 ∧ (2 : Int) % 2 = 0 ∧
      |real .D 0x41DFFFFFFFE00000 - ((2 ^ 31 : Int) : ℚ)| = 1 / 2 ∧ IsFinite .D 0x41DFFFFFFFE00000 ∧
      IsInfinite .D 0xFFF0000000000000 ∧ IsNan .D 0xFFF8000020000000 := by
  refine ⟨finite_patterns.2.2.2.2.2.2.2.2.2.1, ?_, ?_, ?_, ?_, by decide, ?_, ?_, special_patterns.2.2.2.2.1,
    special_patterns.2.2.2.2.2.2.2.2.2.2.2.2⟩
  · rw [real_d_three_halves]; norm_num
  · rw [real_d_three_halves]; norm_num
  · rw [real_d_three_halves]; norm_num [abs_of_pos]
  · rw [real_d_three_halves]; norm_num [abs_of_neg]
  · rw [real_d_int_max]; norm_num [abs_of_neg]
  · simp [IsFinite, IsPattern, expOf, topExp]

/-- IntegerToFloatRoundsTheInteger: zero, an integer that needs rounding, and the greatest exact one. -/
theorem witness_IntegerToFloatRoundsTheInteger :
    (0 : Int) = 0 ∧ (16777217 : Int) ≠ 0 ∧ 0 < (⟨33554434, 2⟩ : Exact).den ∧
      (⟨33554434, 2⟩ : Exact).real = ((16777217 : Int) : ℚ) ∧ (-16777216 : Int).natAbs ≤ 2 ^ 24 := by
  refine ⟨rfl, by decide, by decide, ?_, by decide⟩
  norm_num [Exact.real]

/-- ImmediateMinMaxLanes: the ends of the ranges, and one past them. -/
theorem witness_ImmediateMinMaxLanes :
    (vectors 0 0 0 (-16)).req.imm.toInt = -16 ∧ (vectors 0 0 0 15).req.imm.toInt = 15 ∧
      (vectors 0 0 0 31).req.imm.toInt = 31 ∧ (vectors 0 0 0 (-17)).req.imm.toInt < -16 ∧
      15 < (vectors 0 0 0 16).req.imm.toInt ∧ (vectors 0 0 0 (-1)).req.imm.toInt < 0 ∧
      31 < (vectors 0 0 0 32).req.imm.toInt ∧ (vectors 0 0 0 0).cfg.legal = true := by decide +kernel

/-- LookupHitGivesPhysicalAddress and LookupIgnoresForeignEntries: the global entry, for a read by another ASID; the
other entry may change. -/
theorem witness_LookupHitGivesPhysicalAddress :
    (mapped 0 (ask 0x20FFF 0x3FF 0 0 .K)).Inv ∧ AsidOk (mapped 0 (ask 0x20FFF 0x3FF 0 0 .K)) ∧
      (mapped 0 (ask 0x20FFF 0x3FF 0 0 .K)).tlb[1]? = some globalEntry ∧
      Matches globalEntry 0x3FF (vpn (mapped 0 (ask 0x20FFF 0x3FF 0 0 .K)) 0x20FFF) ∧ Permits globalEntry .R .K ∧
      pageEntry.g = false ∧ pageEntry.asid.toNat ≠ 0x3FF :=
  ⟨mapped_inv _ _ (by decide), by unfold AsidOk; decide, rfl, ⟨rfl, by decide, .inl rfl⟩, ⟨rfl, fun h => absurd h (by decide)⟩,
    rfl, by decide⟩

/-- TlbCommandsFaultInOrder: the levels, the ASID 2^ASIDBITS, a reserved bit of the descriptor, a miss and a match without
permission. -/
theorem witness_TlbCommandsFaultInOrder :
    (mapped 0 (ask 0 0x400 0 0 .K)).Inv ∧ ¬AsidOk (mapped 0 (ask 0 0x400 0 0 .K)) ∧ AsidOk (mapped 0 (ask 0 0x3FF 0x20 0 .K)) ∧
      ¬DescOk (mapped 0 (ask 0 0x3FF 0x20 0 .K)) ∧ ¬DescOk (mapped 0 (ask 0 0x3FF (1 <<< 48) 0 .K)) ∧
      (∀ e ∈ (mapped 0 (ask 0x7123 6 0 0 .U)).tlb, ¬Matches e 6 (vpn (mapped 0 (ask 0x7123 6 0 0 .U)) 0x7123)) ∧
      Matches pageEntry 5 (vpn (mapped 0 (ask 0x7123 5 0 0 .U)) 0x7123) ∧ ¬Permits pageEntry .R .U := by
  refine ⟨mapped_inv _ _ (by decide), by unfold AsidOk; decide, by unfold AsidOk; decide, fun h => ?_, fun h => ?_, ?_,
    ⟨rfl, by decide, .inr rfl⟩, fun h => absurd (h.2 rfl) (by decide)⟩
  · exact absurd (h.1 5 (by decide) (by decide)) (by decide)
  · exact absurd (h.2 48 (by decide)) (by decide)
  · change ∀ e ∈ [pageEntry, globalEntry, TlbEntry.invalid, TlbEntry.invalid], _
    unfold Matches
    decide

/-- FillPlacesEntry, FillThenLookupFindsMapping and HighAddressBitsAreIgnored: a legal fill of a user page at K, which
completes, and a lookup of the page afterwards. -/
theorem witness_FillPlacesEntry :
    (mapped 0 (ask 0x5000 0x3FF 0x9000F 0 .K)).Inv ∧ (mapped 0 (ask 0x5000 0x3FF 0x9000F 0 .K)).req.priv = .K ∧
      AsidOk (mapped 0 (ask 0x5000 0x3FF 0x9000F 0 .K)) ∧ DescOk (mapped 0 (ask 0x5000 0x3FF 0x9000F 0 .K)) ∧
      (∃ t, exec .tlbfill (mapped 0 (ask 0x5000 0x3FF 0x9000F 0 .K)) = .next t ∧ t.resp.status = .OK) ∧
      vpn (mapped 0 (ask 0x5000 0x3FF 0x9000F 0 .K)) 0xFFFF000000005ABC =
        vpn (mapped 0 (ask 0x5000 0x3FF 0x9000F 0 .K)) 0x5000 ∧
      (0x9000F : Word).getLsbD 0 = true ∧ (0x9000F : Word).getLsbD 3 = true ∧ Tlb .tlbfill ∧
      ∀ k < 48, (0xFFFF000000005000 : Word).getLsbD k = (0x5000 : Word).getLsbD k := by
  refine ⟨mapped_inv _ _ (by decide), rfl, by unfold AsidOk; decide, ⟨?_, fun k hk => ?_⟩, ⟨_, rfl, rfl⟩, by decide +kernel,
    by decide, by decide, rfl, by decide⟩
  · change ∀ k, 5 ≤ k → k < 12 → (0x9000F : Word).getLsbD k = false
    decide
  · change (0x9000F : Word).getLsbD k = false
    change 48 ≤ k at hk
    rw [← BitVec.testBit_toNat]
    exact Nat.testBit_eq_false_of_lt (lt_of_lt_of_le (by decide : (0x9000F : Word).toNat < 2 ^ 48) (Nat.pow_le_pow_right (by decide) hk))

/-- ProbeSearchesWithAsidCsr: a level each, an entry that matches the ASID CSR, and none that does. -/
theorem witness_ProbeSearchesWithAsidCsr :
    (mapped 5 (ask 0x7000 0 0 0 .K)).Inv ∧ (mapped 5 (ask 0x7000 0 0 0 .U)).req.priv = .U ∧
      (mapped 5 (ask 0x7000 0 0 0 .K)).tlb[0]? = some pageEntry ∧
      Matches pageEntry 5 (vpn (mapped 5 (ask 0x7000 0 0 0 .K)) 0x7000) ∧
      ∀ e ∈ (mapped 0 (ask 0x7000 0 0 0 .K)).tlb, ¬Matches e 0 (vpn (mapped 0 (ask 0x7000 0 0 0 .K)) 0x7000) := by
  refine ⟨mapped_inv _ _ (by decide), rfl, rfl, ⟨rfl, by decide, .inr rfl⟩, ?_⟩
  change ∀ e ∈ [pageEntry, globalEntry, TlbEntry.invalid, TlbEntry.invalid], _
  unfold Matches
  decide

/-- HighAddressBitsAreIgnored: a lookup that misses, with the fault value, and a fill refused for its ASID. -/
theorem witness_HighAddressBitsAreIgnored :
    Tlb .tlblookupR ∧ (after .tlblookupR (mapped 5 (ask 0x8000 5 0 0 .K))).resp.fcode = 5 ∧
      (after .tlbfill (mapped 5 (ask 0x8000 0x400 0 0 .K))).resp.fcode = 4 ∧
      ∀ k < 48, (0xABCD000000008000 : Word).getLsbD k = (0x8000 : Word).getLsbD k := by
  refine ⟨rfl, by decide +kernel, by decide +kernel, by decide⟩

/-- InvalidatedPageMisses: tlbinv.asid of ASID 5 completes, the entries of page 7 that a lookup or a probe of ASID 5 matches are
among those it removes, and a lookup of the global page matches the global entry, which tlbinv.global removes. -/
theorem witness_InvalidatedPageMisses :
    (∃ t, exec .tlbinvAsid (mapped 5 (ask 0 5 0 0 .K)) = .next t ∧ t.resp.status = .OK) ∧
      (∀ e ∈ (mapped 5 (ask 0 5 0 0 .K)).tlb, Matches e 5 7 → Removes .tlbinvAsid (mapped 5 (ask 0 5 0 0 .K)) e) ∧
      vpn (mapped 5 (ask 0 5 0 0 .K)) 0x7000 = 7 ∧ (mapped 5 (ask 0 5 0 0 .K)).asid.toNat = (ask 0 5 0 0 .K).xb.toNat ∧
      Matches globalEntry 3 0x20 ∧ Removes .tlbinvGlobal (mapped 5 (ask 0 5 0 0 .K)) globalEntry := by
  refine ⟨⟨_, rfl, rfl⟩, ?_, by decide +kernel, rfl, ⟨rfl, by decide, .inl rfl⟩, .inr (.inr (.inl ⟨rfl, rfl, rfl⟩))⟩
  intro e he hm
  change e ∈ [pageEntry, globalEntry, TlbEntry.invalid, TlbEntry.invalid] at he
  simp only [List.mem_cons, List.not_mem_nil, or_false] at he
  rcases he with rfl | rfl | rfl | rfl
  · exact .inr (.inl ⟨rfl, rfl, rfl, rfl⟩)
  · exact absurd hm.2.1 (by decide)
  · exact absurd hm.1 (by decide)
  · exact absurd hm.1 (by decide)

/-- InvalidationsRemoveExactlyTheirEntries and InvalidatedPageMisses: at K with a legal ASID; each completes, and a later
request of the same page and ASID. -/
theorem witness_invalidations :
    (mapped 0 (ask 0x7000 5 0 0 .K)).Inv ∧ (mapped 0 (ask 0x7000 5 0 0 .K)).req.priv = .K ∧
      AsidOk (mapped 0 (ask 0x7000 5 0 0 .K)) ∧
      (∃ t, exec .tlbinvPage (mapped 0 (ask 0x7000 5 0 0 .K)) = .next t ∧ t.resp.status = .OK) ∧
      (∃ t, exec .tlbinvAll (mapped 0 (ask 0x7000 5 0 0 .K)) = .next t) ∧
      (∃ t, exec .tlbinvGlobal (mapped 0 (ask 0x7000 5 0 0 .K)) = .next t) ∧ (ask 0x7FFF 5 0 0 .K).xb = 5 ∧
      vpn (mapped 0 (ask 0x7000 5 0 0 .K)) 0x7FFF = vpn (mapped 0 (ask 0x7000 5 0 0 .K)) 0x7000 :=
  ⟨mapped_inv _ _ (by decide), rfl, by unfold AsidOk; decide, ⟨_, rfl, rfl⟩, ⟨_, rfl⟩, ⟨_, rfl⟩, rfl, by decide +kernel⟩

/-- CsrReadReturnsRegister and CsrWriteChecksThenWrites: the two CSR numbers and one past them, the writable bits and one
other, the greatest ASID and one more, the two levels. -/
theorem witness_csr :
    (mapped 0 (ask 0x1F1F031F 0 0 0 .U)).req.imm = 0 ∧ (0x1F1F031F : Word) &&& ~~~(0x1F1F031F : Word) = 0 ∧
      (0x20 : Word) &&& ~~~(0x1F1F031F : Word) ≠ 0 ∧ (mapped 0 (ask 0x3FF 0 0 1 .K)).req.imm = 1 ∧
      (mapped 0 (ask 0x3FF 0 0 1 .K)).req.priv = .K ∧
      (mapped 0 (ask 0x3FF 0 0 1 .K)).req.xa.toNat < 2 ^ (mapped 0 (ask 0x3FF 0 0 1 .K)).cfg.asidBits ∧
      2 ^ (mapped 0 (ask 0x400 0 0 1 .K)).cfg.asidBits ≤ (mapped 0 (ask 0x400 0 0 1 .K)).req.xa.toNat ∧
      (mapped 0 (ask 0 0 0 1 .U)).req.priv = .U ∧ (mapped 0 (ask 0 0 0 2 .U)).req.imm ≠ 0 ∧
      (mapped 0 (ask 0 0 0 2 .U)).req.imm ≠ 1 ∧ (mapped 0 (ask 0 0 0 2 .U)).cfg.legal = true := by decide +kernel

end Sys2Proof.Tests
end

section
/-! PROOF. One equation per branch of a clock cycle, and the statements about single cycles: the reset state (O4), the
step that runs a command (O8), acceptance (O10) and the debug port (O14). -/

namespace Sys2Proof.Proofs.SingleCycle

open Sys2Proof.Machine Sys2Proof.Spec

/-- The model's next cycle is the cycle 0 cycles from now. -/
theorem nextCycle_eq_inputAt (s : State) : s.nextCycle = inputAt s 0 := by
  cases h : s.inputs <;> simp [State.nextCycle, inputAt, h]

/-- Acceptance (10_state.md R60). -/
theorem step_accept {s : State} {r : Request} (hl : s.cfg.legal = true) (hr : (inputAt s 0).rst = false)
    (hb : s.busy = 0) (hq : (inputAt s 0).req = some r) : step s = .next (accept s.popCycle r) := by
  simpa [nextCycle_eq_inputAt, hl, hr, hb, hq] using step_cases s

/-- A cycle with nothing in flight and nothing offered. -/
theorem step_idle {s : State} (hl : s.cfg.legal = true) (hr : (inputAt s 0).rst = false)
    (hb : s.busy = 0) (hq : (inputAt s 0).req = none) : step s = .next (idle s.popCycle) := by
  simpa [nextCycle_eq_inputAt, hl, hr, hb, hq] using step_cases s

/-- A cycle before that of the response (10_state.md R60). -/
theorem step_wait {s : State} (hl : s.cfg.legal = true) (hr : (inputAt s 0).rst = false)
    (hb : 2 ≤ s.busy) : step s = .next (wait s.popCycle) := by
  have h0 : s.busy ≠ 0 := by omega
  have h1 : s.busy ≠ 1 := by omega
  simpa [nextCycle_eq_inputAt, hl, hr, hb, h0, h1] using step_cases s

/-- The cycle of the response (10_state.md R60). -/
theorem step_answer {s : State} (hl : s.cfg.legal = true) (hr : (inputAt s 0).rst = false)
    (hb : s.busy = 1) : step s = answer s.popCycle := by
  simpa [nextCycle_eq_inputAt, hl, hr, hb] using step_cases s

/-- A request placed in flight leaves the later inputs as they are. -/
theorem popCycle_placeRequest (s : State) (r : Request) :
    (placeRequest s r).popCycle = { s with req := r, busy := 1, inputs := s.inputs.tail } := by
  cases h : s.inputs <;> simp [placeRequest, State.popCycle, h]

/-- Settles O4: every field of the reset state by its own law. -/
theorem resetStateValues : Obligations.ResetStateValues := by
  refine ⟨fun c => ⟨rfl, rfl, rfl, by simp, fun e he => ?_, rfl, rfl, rfl, rfl, rfl⟩, rfl⟩
  rw [resetWith_tlb] at he
  rw [List.eq_of_mem_replicate he]
  rfl

/-- Settles O8: the step in the response's cycle is `answer`, and `answer` is the meaning of a word that decodes. -/
theorem stepRunsDecodedCommand : Obligations.StepRunsDecodedCommand := by
  refine ⟨fun s i hl hb hr hd => ?_, fun s i n w hl hd => ?_⟩
  · exact (step_answer hl hr hb).trans (answer_ok s.popCycle i hd)
  · have hr : (inputAt (s.withFetchWord n w) 0).rst = false :=
      nextCycle_eq_inputAt (s.withFetchWord n w) ▸ placeRequest_nextCycle_rst s _
    have hs := step_answer (s := s.withFetchWord n w) hl hr rfl
    rw [State.withFetchWord, popCycle_placeRequest] at hs
    exact hs.trans (answer_ok _ i hd)

/-- Settles O10: with nothing in flight a cycle is an acceptance or an idle one. -/
theorem acceptSamplesEveryInput : Obligations.AcceptSamplesEveryInput := by
  intro s hl hb hr
  cases hq : (inputAt s 0).req with
  | some r =>
    refine ⟨_, step_accept hl hr hb hq, ⟨rfl, rfl, rfl, rfl⟩, rfl, rfl, rfl, rfl, rfl, fun r' h => ?_, nofun⟩
    cases h
    exact ⟨rfl, rfl, rfl⟩
  | none =>
    exact ⟨_, step_idle hl hr hb hq, ⟨rfl, rfl, rfl, rfl⟩, rfl, rfl, rfl, rfl, rfl, nofun,
      fun _ => ⟨rfl, hb, rfl⟩⟩

/-- A shifted value and low bits below the shift do not overlap. -/
theorem shiftLeft_or_toNat (x y : Word) (n p : Nat) (hn : p + n ≤ 64) (hx : x.toNat < 2 ^ p) (hy : y.toNat < 2 ^ n) :
    ((x <<< n) ||| y).toNat = x.toNat * 2 ^ n + y.toNat := by
  have hlt : x.toNat * 2 ^ n < 2 ^ 64 := by
    calc x.toNat * 2 ^ n < 2 ^ p * 2 ^ n := Nat.mul_lt_mul_of_pos_right hx (Nat.two_pow_pos n)
      _ = 2 ^ (p + n) := (Nat.pow_add 2 p n).symm
      _ ≤ 2 ^ 64 := Nat.pow_le_pow_right (by decide) hn
  rw [BitVec.toNat_or, BitVec.toNat_shiftLeft, Nat.shiftLeft_eq, Nat.mod_eq_of_lt hlt, Nat.mul_comm,
    ← Nat.two_pow_add_eq_or_of_lt hy]

/-- The permission bits of `DBG_TLB` as a number (10_state.md R64). -/
theorem permissionBits_toNat (g u x w r : Bool) :
    (bitAt g 4 ||| bitAt u 3 ||| bitAt x 2 ||| bitAt w 1 ||| bitAt r 0).toNat =
      (if g then 16 else 0) + (if u then 8 else 0) + (if x then 4 else 0) + (if w then 2 else 0) +
        (if r then 1 else 0) := by
  revert g u x w r
  decide

/-- The bounds of R11 on the widths of the addresses (00_scope.md R11). -/
theorem address_widths_of_legal (c : Params) (h : c.legal = true) :
    12 ≤ c.ps ∧ c.ps ≤ c.valen ∧ c.valen ≤ 64 ∧ c.ps ≤ c.palen ∧ c.palen ≤ 64 := by
  simp only [Params.legal, Bool.and_eq_true, decide_eq_true_eq] at h
  omega

/-- The three words of a valid entry, as numbers (10_state.md R64). -/
theorem debugWords_of_valid (c : Params) (e : TlbEntry) (hl : c.legal = true) (hf : e.Fits c) (hv : e.v = true) :
    ∃ w0 w1 w2 : Word, e.debugWords c.ps = [w0, w1, w2] ∧ w0.toNat = e.vpn.toNat * 2 ^ c.ps + 1 ∧
      w1.toNat = e.ppn.toNat * 2 ^ c.ps + (if e.g then 16 else 0) + (if e.u then 8 else 0) +
        (if e.x then 4 else 0) + (if e.w then 2 else 0) + (if e.r then 1 else 0) ∧ w2.toNat = e.asid.toNat := by
  obtain ⟨hps, hva, hva64, hpa, hpa64⟩ := address_widths_of_legal c hl
  obtain ⟨hvpn, -, hppn⟩ := hf
  have hpow : 2 ^ 12 ≤ 2 ^ c.ps := Nat.pow_le_pow_right (by decide) hps
  have hbits := permissionBits_toNat e.g e.u e.x e.w e.r
  refine ⟨_, _, _, if_pos hv, ?_, ?_, ?_⟩
  · exact shiftLeft_or_toNat _ 1 _ (c.valen - c.ps) (by omega) hvpn (lt_of_lt_of_le (by decide) hpow)
  · simp only [BitVec.or_assoc] at hbits ⊢
    rw [shiftLeft_or_toNat _ _ _ (c.palen - c.ps) (by omega) hppn (lt_of_lt_of_le _ hpow), hbits]
    · simp only [Nat.add_assoc]
    · rw [hbits]
      split_ifs <;> decide
  · exact BitVec.toNat_setWidth_of_le (by decide)

/-- `DBG_TLB` of an index of the TLB (10_state.md R64). -/
theorem debugRead_tlb {s : State} {i : Nat} {e : TlbEntry} (hb : s.busy = 0) (he : s.tlb[i]? = some e) :
    s.debugRead (.tlb i) = some (e.debugWords s.cfg.ps) := by
  simp [State.debugRead, hb, he]

/-- Settles O14: the invariant bounds VPN and PPN, so that the shifted numbers fit a word. -/
theorem debugPortReads : Obligations.DebugPortReads := by
  intro s hinv hb
  refine ⟨?_, ?_, ?_, fun i e he hv => ?_, fun i e he hv => ?_, fun i hi => ?_⟩
  · simp [State.debugRead, hb]
  · simp [State.debugRead, hb]
  · simp [State.debugRead, hb]
  · rw [debugRead_tlb hb he]
    obtain ⟨w0, w1, w2, hw, h⟩ :=
      debugWords_of_valid s.cfg e hinv.cfgLegal (hinv.tlbFits e (List.mem_of_getElem? he)) hv
    exact ⟨w0, w1, w2, congrArg some hw, h⟩
  · simp [debugRead_tlb hb he, TlbEntry.debugWords, hv]
  · have hnone : s.tlb[i]? = none := List.getElem?_eq_none (hinv.tlbLength ▸ hi)
    simp [State.debugRead, hb, hnone]

end Sys2Proof.Proofs.SingleCycle
end

section
/-! PROOF. What a command of each unit can answer, and from it the one well-formed response (O15), the response LAT
cycles after acceptance (O11) and the sticky flags (O21). -/

namespace Sys2Proof.Proofs.Responses

open Sys2Proof.Machine Sys2Proof.Spec

/-- A translation refuses with TLB_MISS or TLB_PERM (20_memory.md R110). -/
theorem translate_error {c : Params} {tlb : List TlbEntry} {asid : BitVec 16} {va : Word} {acc : Access} {p : Priv}
    {e : FaultCode} (h : Machine.translate c tlb asid va acc p = .error e) : e = .tlbMiss ∨ e = .tlbPerm := by
  unfold Machine.translate at h
  split at h
  · cases h
    exact .inl rfl
  · repeat' split at h
    · cases h
      exact .inr rfl
    · cases h
      exact .inr rfl
    · cases h

/-- What a TLB command answers: a scalar with only the TLB and RR changed, or one of its four faults with nothing
changed (47_tlb.md R2011, R2012). -/
inductive TlbAnswer (s : State) : Result → Prop
  | ok (tlb : List TlbEntry) (rr : Nat) (x : Word) :
    TlbAnswer s (.next (respondScalar { s with tlb := tlb, rr := rr } x))
  | fault (e : FaultCode) (v : Word) (he : e ∈ [FaultCode.priv, .range, .tlbMiss, .tlbPerm]) :
    TlbAnswer s (.next (raise s e v))

theorem TlbAnswer.needKernel {s : State} {k : Result} (h : TlbAnswer s k) : TlbAnswer s (needKernel s k) := by
  unfold Machine.needKernel
  split
  · exact h
  · exact .fault .priv _ (by decide)

theorem TlbAnswer.needAsid {s : State} {k : Result} (h : TlbAnswer s k) : TlbAnswer s (needAsid s k) := by
  unfold Machine.needAsid
  split
  · exact h
  · exact .fault .range _ (by decide)

theorem TlbAnswer.needDesc {s : State} {k : Result} (h : TlbAnswer s k) : TlbAnswer s (needDesc s k) := by
  unfold Machine.needDesc
  split
  · exact h
  · exact .fault .range _ (by decide)

theorem tlbLookup_answer (acc : Access) (s : State) : TlbAnswer s (tlbLookup acc s) := by
  refine TlbAnswer.needAsid ?_
  split
  · exact .ok s.tlb s.rr _
  next e h => exact .fault e _ (by rcases translate_error h with rfl | rfl <;> decide)

/-- Every TLB command answers as `TlbAnswer` says. -/
theorem exec_tlb (i : Instr) (s : State) (h : Tlb i) : TlbAnswer s (exec i s) := by
  unfold Tlb at h
  cases i
  case tlblookupR => exact tlbLookup_answer .R s
  case tlblookupW => exact tlbLookup_answer .W s
  case tlblookupX => exact tlbLookup_answer .X s
  case tlbfill => exact .needKernel (.needAsid (.needDesc (.ok _ _ _)))
  case tlbprobe => exact .needKernel (.ok s.tlb s.rr _)
  case tlbinvPage | tlbinvAsid => exact .needKernel (.needAsid (.ok _ s.rr _))
  case tlbinvGlobal | tlbinvAll => exact .needKernel (.ok _ s.rr _)
  all_goals exact absurd h (by decide)

/-- What a CSR command answers: a scalar, with FCSR and ASID written by `csrwr` alone, or RANGE or PRIV with nothing
changed (48_csr.md R2100 to R2102). -/
inductive CsrAnswer (i : Instr) (s : State) : Result → Prop
  | ok (f : BitVec 32) (a : BitVec 16) (x : Word) (hrd : i ≠ .csrwr → f = s.fcsr ∧ a = s.asid) :
    CsrAnswer i s (.next (respondScalar { s with fcsr := f, asid := a } x))
  | fault (e : FaultCode) (v : Word) (he : e ∈ [FaultCode.range, .priv]) : CsrAnswer i s (.next (raise s e v))

theorem needCsr_answer {i : Instr} {s : State} {k : Machine.Csr → Result} (h : ∀ c, CsrAnswer i s (k c)) :
    CsrAnswer i s (needCsr s k) := by
  unfold needCsr
  repeat' split
  · exact .fault .range _ (by decide)
  · exact h _
  · exact .fault .priv _ (by decide)

theorem execCsrwr_answer (s : State) : CsrAnswer .csrwr s (execCsrwr s) := by
  refine needCsr_answer fun c => ?_
  split
  · cases c
    · exact .ok _ s.asid _ (absurd rfl)
    · exact .ok s.fcsr _ _ (absurd rfl)
  · exact .fault .range _ (by decide)

/-- Every CSR command answers as `CsrAnswer` says. -/
theorem exec_csr (i : Instr) (s : State) (h : Spec.Csr i) : CsrAnswer i s (exec i s) := by
  unfold Spec.Csr at h
  cases i
  case csrrd => exact needCsr_answer fun c => .ok s.fcsr s.asid _ fun _ => ⟨rfl, rfl⟩
  case csrwr => exact execCsrwr_answer s
  all_goals exact absurd h (by decide)

/-- What any command answers: an OK response with only FCSR, ASID, the TLB and RR changed, or a fault other than
ILLEGAL_OP with at most FCSR changed (10_state.md R59, 60_exceptions.md R2201, R2203). -/
inductive CommandAnswer (s : State) : Result → Prop
  | ok (f : BitVec 32) (a : BitVec 16) (tlb : List TlbEntry) (rr : Nat) (vr : Vec) (xr : Word) :
    CommandAnswer s (.next (respond { s with fcsr := f, asid := a, tlb := tlb, rr := rr } (okResponse vr xr)))
  | fault (f : BitVec 32) (e : FaultCode) (v : Word) (he : e ≠ .illegalOp) :
    CommandAnswer s (.next (raise { s with fcsr := f } e v))

theorem fpCommit_answer (s : State) (r : Word × ExcSet) : CommandAnswer s (fpCommit s r) := by
  by_cases h : r.2 &&& enablesOf s.fcsr = 0
  · rw [fpCommit_ok s r h]
    exact .ok _ s.asid s.tlb s.rr 0 r.1
  · rw [fpCommit_trap s r h]
    exact .fault _ .fpe _ (by decide)

theorem TlbAnswer.commandAnswer {s : State} {o : Result} (h : TlbAnswer s o) : CommandAnswer s o := by
  cases h with
  | ok tlb rr x => exact .ok s.fcsr s.asid tlb rr 0 x
  | fault e v he => exact .fault s.fcsr e v (by rintro rfl; exact absurd he (by decide))

theorem CsrAnswer.commandAnswer {i : Instr} {s : State} {o : Result} (h : CsrAnswer i s o) : CommandAnswer s o := by
  cases h with
  | ok f a x _ => exact .ok f a s.tlb s.rr 0 x
  | fault e v he => exact .fault s.fcsr e v (by rintro rfl; exact absurd he (by decide))

/-- Every command of every unit answers as `CommandAnswer` says. -/
theorem exec_answer (i : Instr) (s : State) : CommandAnswer s (exec i s) := by
  rcases unit_cases i with h | h | h | h
  · obtain ⟨r, hr⟩ := exec_fpu i s h
    exact hr ▸ fpCommit_answer s r
  · rcases exec_simd i s h with ⟨v, hv⟩ | hv
    · exact hv ▸ .ok s.fcsr s.asid s.tlb s.rr v 0
    · exact hv ▸ .fault s.fcsr .illegalImm s.req.imm (by decide)
  · exact (exec_tlb i s h).commandAnswer
  · exact (exec_csr i s h).commandAnswer

/-- A response leaves the parameters, the request, the inputs and the latencies of the state it answers in. -/
theorem respond_answered (s : State) (f : BitVec 32) (a : BitVec 16) (tlb : List TlbEntry) (rr : Nat) (r : Response) :
    Answered s (respond { s with fcsr := f, asid := a, tlb := tlb, rr := rr } r) r :=
  ⟨rfl, rfl, rfl, rfl, rfl, rfl, rfl, rfl⟩

/-- FCODE of every fault but ILLEGAL_OP (60_exceptions.md R2200). -/
theorem code_range (e : FaultCode) (h : e ≠ .illegalOp) : 2 ≤ e.code.toNat ∧ e.code.toNat ≤ 7 := by
  cases e
  case illegalOp => exact absurd rfl h
  all_goals decide

/-- Settles O15, by the two shapes of a command's answer. -/
theorem everyCommandAnswersOnce : Obligations.EveryCommandAnswersOnce := by
  intro i s
  have h := exec_answer i s
  generalize exec i s = o at h
  cases h with
  | ok f a tlb rr vr xr => exact ⟨_, rfl, respond_answered s f a tlb rr _, fun _ => ⟨rfl, rfl, rfl⟩, nofun⟩
  | fault f e v he =>
    exact ⟨_, rfl, respond_answered s f s.asid s.tlb s.rr _, nofun, fun _ => ⟨rfl, rfl, rfl, code_range e he⟩⟩

/-- The response of the request in flight comes, whether its word is that of a command or not (10_state.md R60,
30_encoding.md R159). -/
theorem answer_answered (s : State) : ∃ t, answer s = .next t ∧ Answered s t t.resp := by
  cases h : decode s.req.cmd with
  | ok i =>
    obtain ⟨t, ht, ha, -⟩ := everyCommandAnswersOnce i s
    exact ⟨t, (answer_ok s i h).trans ht, ha⟩
  | error e => exact ⟨_, answer_error s e h, respond_answered s s.fcsr s.asid s.tlb s.rr _⟩

/-- Only FPU commands and `csrwr` write FCSR (10_state.md R56, R57). -/
theorem exec_keeps_fcsr {i : Instr} {s t : State} (hf : ¬Fpu i) (hw : i ≠ .csrwr) (h : exec i s = .next t) :
    t.fcsr = s.fcsr := by
  rcases unit_cases i with hu | hu | hu | hu
  · exact absurd hu hf
  · rcases exec_simd i s hu with ⟨v, hv⟩ | hv <;> cases h.symm.trans hv <;> rfl
  · have ha := exec_tlb i s hu
    rw [h] at ha
    cases ha <;> rfl
  · have ha := exec_csr i s hu
    rw [h] at ha
    cases ha with
    | ok f a x hrd => exact (hrd hw).1
    | fault => rfl

/-- FLAGS after an FPU command: it joins the set left in CAUSE when the command completes, and stays when it traps
(40_fp_arith.md R1010). -/
theorem exec_fpu_flags {i : Instr} {s t : State} (hf : Fpu i) (h : exec i s = .next t) :
    (t.resp.status = .OK ∧ flagsOf t.fcsr = flagsOf s.fcsr ||| causeOf t.fcsr) ∨
      (t.resp.status = .FAULT ∧ flagsOf t.fcsr = flagsOf s.fcsr) := by
  obtain ⟨r, hr⟩ := exec_fpu i s hf
  rw [h] at hr
  by_cases ht : r.2 &&& enablesOf s.fcsr = 0
  · rw [fpCommit_ok s r ht] at hr
    cases hr
    exact .inl ⟨rfl, by simp⟩
  · rw [fpCommit_trap s r ht] at hr
    cases hr
    exact .inr ⟨rfl, by simp⟩

/-- Settles O21: an FPU command joins a set to FLAGS or keeps it, any other command but `csrwr` keeps FCSR. -/
theorem flagsAreSticky : Obligations.FlagsAreSticky := by
  intro i s t hw h
  by_cases hf : Fpu i
  · rcases exec_fpu_flags hf h with ⟨hs, hfl⟩ | ⟨hs, hfl⟩
    · refine ⟨fun k hk => ?_, fun _ _ => hfl, by simp [hs], absurd hf⟩
      change (flagsOf t.fcsr).getLsbD k = true
      rw [hfl, BitVec.getLsbD_or, flagsOf, hk, Bool.true_or]
    · exact ⟨fun k hk => (congrArg (·.getLsbD k) hfl).trans hk, by simp [hs], fun _ _ => hfl, absurd hf⟩
  · rw [exec_keeps_fcsr hf hw h]
    exact ⟨fun _ hk => hk, fun h => absurd h hf, fun h => absurd h hf, fun _ => rfl⟩

end Sys2Proof.Proofs.Responses
end

section
/-! PROOF. Runs of several cycles: a request waits LAT cycles and has its response in the last (O11). -/

namespace Sys2Proof.Proofs.Latency

open Sys2Proof.Machine Sys2Proof.Spec Sys2Proof.Proofs.SingleCycle Sys2Proof.Proofs.Responses

/-- One more step at the end of a run. -/
theorem run_succ_of_run (M : Host.Core) {k : Nat} {s u t : M.State} (hu : M.run k s = .next u)
    (ht : M.step u = .next t) : M.run (k + 1) s = .next t := by
  induction k generalizing s with
  | zero =>
    cases hu
    simp [Host.Core.run, ht]
  | succ k ih =>
    rw [Host.Core.run] at hu ⊢
    cases hs : M.step s with
    | next s' =>
      rw [hs] at hu
      exact ih hu
    | fault r => simp [hs] at hu
    | refused r => simp [hs] at hu

/-- The state `u`, `k` cycles after `s` began with the acceptance of `r`, while no response is due yet. -/
structure InFlight (s : State) (r : Request) (k : Nat) (u : State) : Prop where
  cfg : u.cfg = s.cfg
  unit : SameUnit s u
  req : u.req = r
  busy : u.busy = lat s + 1 - k
  silent : u.respValid = false
  record : u.responses = s.responses
  inputs : u.inputs = s.inputs.drop k

/-- The inputs of the next cycle of `u`, counted from `s`. -/
theorem InFlight.inputAt_zero {s u : State} {r : Request} {k : Nat} (h : InFlight s r k u) :
    inputAt u 0 = inputAt s k := by
  simp [inputAt, h.inputs]

/-- A cycle of waiting keeps the request in flight. -/
theorem InFlight.wait {s u : State} {r : Request} {k : Nat} (h : InFlight s r k u) :
    InFlight s r (k + 1) (wait u.popCycle) where
  cfg := h.cfg
  unit := ⟨h.unit.fcsr, h.unit.asid, h.unit.tlb, h.unit.rr⟩
  req := h.req
  busy := by
    have hb := h.busy
    show u.busy - 1 = lat s + 1 - (k + 1)
    omega
  silent := rfl
  record := h.record
  inputs := by
    show u.inputs.tail = s.inputs.drop (k + 1)
    rw [h.inputs, List.tail_drop]

section
variable {s : State} {r : Request} (hl : s.cfg.legal = true) (hb : s.busy = 0) (hq : (inputAt s 0).req = some r)
  (hr : ∀ k ≤ lat s, (inputAt s k).rst = false)
include hl hb hq hr

/-- From acceptance on, the request is in flight for LAT cycles (10_state.md R60). -/
theorem run_inFlight {k : Nat} (h1 : 1 ≤ k) (hk : k ≤ lat s) :
    ∃ u, Host.Core.run Sys2Proof.core k s = .next u ∧ InFlight s r k u := by
  induction k, h1 using Nat.le_induction with
  | base =>
    refine ⟨accept s.popCycle r, ?_, rfl, ⟨rfl, rfl, rfl, rfl⟩, rfl, rfl, rfl, rfl, List.drop_one.symm⟩
    exact run_succ_of_run Sys2Proof.core rfl (step_accept hl (hr 0 (Nat.zero_le _)) hb hq)
  | succ k _ ih =>
    obtain ⟨u, hu, hf⟩ := ih (by omega)
    have hrst : (inputAt u 0).rst = false := hf.inputAt_zero ▸ hr k (by omega)
    have hbusy : 2 ≤ u.busy := by
      have := hf.busy
      omega
    exact ⟨_, run_succ_of_run Sys2Proof.core hu (step_wait (hf.cfg ▸ hl) hrst hbusy), hf.wait⟩

/-- LAT cycles after acceptance the response is there (10_state.md R60). -/
theorem run_answers : ∃ t, Host.Core.run Sys2Proof.core (lat s + 1) s = .next t ∧ t.respValid = true ∧
    t.busy = 0 ∧ t.req = r ∧ t.responses = t.resp :: s.responses := by
  obtain ⟨u, hu, hf⟩ := run_inFlight hl hb hq hr (k := lat s) (Nat.le_add_left 1 _) (Nat.le_refl _)
  have hrst : (inputAt u 0).rst = false := hf.inputAt_zero ▸ hr (lat s) (Nat.le_refl _)
  have hbusy : u.busy = 1 := by
    have := hf.busy
    omega
  obtain ⟨t, ht, ha⟩ := answer_answered u.popCycle
  refine ⟨t, run_succ_of_run Sys2Proof.core hu ?_, ha.valid, ha.free, ha.req.trans hf.req, ?_⟩
  · exact (step_answer (hf.cfg ▸ hl) hrst hbusy).trans ht
  · exact ha.record.trans (congrArg _ hf.record)

end

/-- Settles O11: the request is in flight in each of the LAT cycles, and the next one answers it. -/
theorem oneResponseAfterLatCycles : Obligations.OneResponseAfterLatCycles := by
  intro s r hl hb hq hr
  refine ⟨run_answers hl hb hq hr, fun k h1 hk => ?_⟩
  obtain ⟨u, hu, hf⟩ := run_inFlight hl hb hq hr h1 hk
  exact ⟨u, hu, hf.silent, hf.busy, hf.record, hf.unit⟩

end Sys2Proof.Proofs.Latency
end

section
/-! PROOF. The operand forms of 30_encoding.md R160: two requests that agree on the ports a form reads get the same
answer, whatever the other ports hold (O22). -/

namespace Sys2Proof.Proofs.Forms

open Sys2Proof.Machine Sys2Proof.Spec

/-- An answer with the request in the latch of its state replaced by `q`. -/
def withReq (q : Request) : Result → Result
  | .next t => .next { t with req := q }
  | .fault r => .fault r
  | .refused r => .refused r

/-- The command commits the same result and exception set for the request of `s` and for `q`. -/
def CommitsAlike (i : Instr) (s : State) (q : Request) : Prop :=
  ∃ r, exec i s = fpCommit s r ∧ exec i { s with req := q } = fpCommit { s with req := q } r

/-- The command gives the same vector for the request of `s` and for `q`. -/
def GivesAlike (i : Instr) (s : State) (q : Request) : Prop :=
  ∃ v, exec i s = .next (respondVec s v) ∧ exec i { s with req := q } = .next (respondVec { s with req := q } v)

section
variable {i : Instr} {s : State} {q : Request}

/-! ### The shared ends of a command -/

/-- A fault reads of the request the PC alone (60_exceptions.md R2201). -/
theorem raise_withReq (hpc : q.pc = s.req.pc) (e : FaultCode) (v : Word) :
    Host.Outcome.next (raise { s with req := q } e v) = withReq q (.next (raise s e v)) := by
  simp [raise, respond, withReq, hpc]

/-- FPCOMMIT reads of the request the PC alone (40_fp_arith.md R1010). -/
theorem fpCommit_withReq (hpc : q.pc = s.req.pc) (r : Word × ExcSet) :
    fpCommit { s with req := q } r = withReq q (fpCommit s r) := by
  by_cases h : r.2 &&& enablesOf s.fcsr = 0
  · rw [fpCommit_ok s r h]
    exact fpCommit_ok _ r h
  · rw [fpCommit_trap s r h, ← raise_withReq (s := { s with fcsr := withCause s.fcsr r.2 }) hpc]
    exact fpCommit_trap _ r h

/-- Check 1 of R2011 reads PRIV, and CMD for its fault. -/
theorem needKernel_withReq (hp : q.priv = s.req.priv) (hcmd : q.cmd = s.req.cmd) (hpc : q.pc = s.req.pc)
    {k k' : Result} (hk : k' = withReq q k) : needKernel { s with req := q } k' = withReq q (needKernel s k) := by
  simp only [needKernel, hp, hcmd]
  split
  · exact hk
  · exact raise_withReq hpc _ _

/-- Check 2 of R2011 reads XB. -/
theorem needAsid_withReq (hxb : q.xb = s.req.xb) (hpc : q.pc = s.req.pc)
    {k k' : Result} (hk : k' = withReq q k) : needAsid { s with req := q } k' = withReq q (needAsid s k) := by
  simp only [needAsid, hxb]
  split
  · exact hk
  · exact raise_withReq hpc _ _

/-- Check 3 of R2011 reads XC. -/
theorem needDesc_withReq (hxc : q.xc = s.req.xc) (hpc : q.pc = s.req.pc)
    {k k' : Result} (hk : k' = withReq q k) : needDesc { s with req := q } k' = withReq q (needDesc s k) := by
  simp only [needDesc, hxc]
  split
  · exact hk
  · exact raise_withReq hpc _ _

/-- Checks 1 and 2 of R2102 read IMM and PRIV. -/
theorem needCsr_withReq (himm : q.imm = s.req.imm) (hp : q.priv = s.req.priv) (hpc : q.pc = s.req.pc)
    {k k' : Machine.Csr → Result} (hk : ∀ c, k' c = withReq q (k c)) :
    needCsr { s with req := q } k' = withReq q (needCsr s k) := by
  simp only [needCsr, himm, hp]
  repeat' split
  · exact raise_withReq hpc _ _
  · exact hk _
  · exact raise_withReq hpc _ _

/-! ### The FPU commands

Once the ports that a form reads are the same in both requests, the two meanings of each of its commands unfold to one
term, so that the lemma of a form only has to leave out the commands of the other forms. -/

/-- FR1 reads XA. -/
theorem exec_fr1 (hf : Fpu i) (ho : i.fields.op ∈ ([0x10, 0x30, 0x31, 0x32] : List (BitVec 8)))
    (hxa : q.xa = s.req.xa) : CommitsAlike i s q := by
  unfold Fpu at hf
  cases q
  cases hxa
  cases i <;> first | exact absurd hf (by decide) | exact absurd ho (by decide) | exact ⟨_, rfl, rfl⟩

/-- FR2 reads XA and XB. -/
theorem exec_fr2 (hf : Fpu i) (ho : i.fields.op ∉ ([0x10, 0x30, 0x31, 0x32] : List (BitVec 8))) (hc : ¬ReadsXc i)
    (hxa : q.xa = s.req.xa) (hxb : q.xb = s.req.xb) : CommitsAlike i s q := by
  unfold Fpu at hf
  unfold ReadsXc at hc
  cases q
  cases hxa
  cases hxb
  cases i <;> first
    | exact absurd hf (by decide)
    | exact absurd ho (by decide)
    | exact absurd (by decide) hc
    | exact ⟨_, rfl, rfl⟩

/-- FR3 reads XA, XB and XC. -/
theorem exec_fr3 (hf : Fpu i) (hc : ReadsXc i) (hxa : q.xa = s.req.xa) (hxb : q.xb = s.req.xb)
    (hxc : q.xc = s.req.xc) : CommitsAlike i s q := by
  cases q
  cases hxa
  cases hxb
  cases hxc
  simp only [ReadsXc, List.mem_cons, List.not_mem_nil, or_false] at hc
  rcases hc with rfl | rfl | rfl
  · exact ⟨_, rfl, rfl⟩
  · exact ⟨_, rfl, rfl⟩
  · exact absurd hf (by unfold Fpu; decide)

/-- An FPU command reads what its form FR1, FR2 or FR3 reads. -/
theorem exec_fpu_withReq (hf : Fpu i) (hxa : ReadsXa i → q.xa = s.req.xa) (hxb : ReadsXb i → q.xb = s.req.xb)
    (hxc : ReadsXc i → q.xc = s.req.xc) (hpc : q.pc = s.req.pc) :
    exec i { s with req := q } = withReq q (exec i s) := by
  have hxa := hxa (.inl hf)
  obtain ⟨r, h1, h2⟩ : CommitsAlike i s q := by
    by_cases ho : i.fields.op ∈ ([0x10, 0x30, 0x31, 0x32] : List (BitVec 8))
    · exact exec_fr1 hf ho hxa
    · have hxb := hxb (.inl ⟨hf, ho⟩)
      by_cases hc : ReadsXc i
      · exact exec_fr3 hf hc hxa hxb (hxc hc)
      · exact exec_fr2 hf ho hc hxa hxb
  rw [h1, h2, fpCommit_withReq hpc]

/-! ### The SIMD commands -/

/-- VV2 reads VA and VB. -/
theorem exec_vv2 (h : ReadsVb i) (hc : ¬ReadsVc i) (hva : q.va = s.req.va) (hvb : q.vb = s.req.vb) :
    GivesAlike i s q := by
  obtain ⟨hu, ho⟩ := h
  unfold Simd at hu
  have hc := fun h => hc ⟨hu, h⟩
  cases q
  cases hva
  cases hvb
  cases i <;> first
    | exact absurd hu (by decide)
    | exact absurd ho (by decide)
    | exact absurd (by decide) hc
    | exact ⟨_, rfl, rfl⟩

/-- VV3 reads VA, VB and VC. -/
theorem exec_vv3 (h : ReadsVc i) (hva : q.va = s.req.va) (hvb : q.vb = s.req.vb) (hvc : q.vc = s.req.vc) :
    GivesAlike i s q := by
  obtain ⟨hu, ho⟩ := h
  cases q
  cases hva
  cases hvb
  cases hvc
  cases i <;> first | exact absurd hu (by decide) | exact absurd ho (by decide) | exact ⟨_, rfl, rfl⟩

/-- The commands of form VI, `vmini` and `vmaxi` (43_simd_minmax.md R1501). -/
theorem exec_vi (h : hasOp i 2 [0x0B, 0x0C]) : ∃ σ W f, exec i = lanewiseImm σ W f := by
  obtain ⟨hu, ho⟩ := h
  cases i <;> first | exact absurd ho (by decide) | exact absurd hu (by decide) | exact ⟨_, _, _, rfl⟩

/-- VI reads VA and IMM. -/
theorem lanewiseImm_withReq (σ : Sign) (W : Nat) (f : BitVec W → BitVec W → BitVec W) (hva : q.va = s.req.va)
    (himm : q.imm = s.req.imm) (hpc : q.pc = s.req.pc) :
    lanewiseImm σ W f { s with req := q } = withReq q (lanewiseImm σ W f s) := by
  simp only [lanewiseImm, hva, himm]
  split
  · rfl
  · exact raise_withReq hpc _ _

/-- A SIMD command reads what its form VV2, VV3 or VI reads. -/
theorem exec_simd_withReq (hu : Simd i) (hva : q.va = s.req.va) (hvb : ReadsVb i → q.vb = s.req.vb)
    (hvc : ReadsVc i → q.vc = s.req.vc) (himm : ReadsImm i → q.imm = s.req.imm) (hpc : q.pc = s.req.pc) :
    exec i { s with req := q } = withReq q (exec i s) := by
  by_cases ho : i.fields.op ∈ ([0x0B, 0x0C] : List (BitVec 8))
  · obtain ⟨σ, W, f, hi⟩ := exec_vi ⟨hu, ho⟩
    rw [hi]
    exact lanewiseImm_withReq σ W f hva (himm (.inl ⟨hu, ho⟩)) hpc
  · have hvb := hvb ⟨hu, ho⟩
    obtain ⟨v, h1, h2⟩ : GivesAlike i s q := by
      by_cases hc : ReadsVc i
      · exact exec_vv3 hc hva hvb (hvc hc)
      · exact exec_vv2 ⟨hu, ho⟩ hc hva hvb
    rw [h1, h2]
    rfl

/-! ### The TLB and CSR commands -/

/-- The lookups read XA, XB and PRIV (47_tlb.md R2001 to R2003). -/
theorem tlbLookup_withReq (acc : Access) (hxa : q.xa = s.req.xa) (hxb : q.xb = s.req.xb)
    (hp : q.priv = s.req.priv) (hpc : q.pc = s.req.pc) :
    tlbLookup acc { s with req := q } = withReq q (tlbLookup acc s) := by
  refine needAsid_withReq hxb hpc ?_
  simp only [hxa, hxb, hp]
  split
  · rfl
  · exact raise_withReq hpc _ _

/-- A TLB command reads PRIV, CMD for its PRIV fault, and the ports its form names (47_tlb.md R2011). -/
theorem exec_tlb_withReq (hu : Tlb i) (hxa : ReadsXa i → q.xa = s.req.xa) (hxb : ReadsXb i → q.xb = s.req.xb)
    (hxc : ReadsXc i → q.xc = s.req.xc) (hp : q.priv = s.req.priv) (hcmd : i ∈ kernelOnly → q.cmd = s.req.cmd)
    (hpc : q.pc = s.req.pc) : exec i { s with req := q } = withReq q (exec i s) := by
  unfold Tlb at hu
  unfold kernelOnly at hcmd
  cases i
  case tlblookupR | tlblookupW | tlblookupX =>
    exact tlbLookup_withReq _ (hxa (.inr (by decide))) (hxb (.inr (by decide))) hp hpc
  case tlbfill =>
    have hxb := hxb (.inr (by decide))
    have hxc := hxc (by unfold ReadsXc; decide)
    refine needKernel_withReq hp (hcmd (by decide)) hpc (needAsid_withReq hxb hpc (needDesc_withReq hxc hpc ?_))
    rw [hxa (.inr (by decide)), hxb, hxc]
    rfl
  case tlbprobe =>
    refine needKernel_withReq hp (hcmd (by decide)) hpc ?_
    rw [hxa (.inr (by decide))]
    rfl
  case tlbinvPage =>
    have hxb := hxb (.inr (by decide))
    refine needKernel_withReq hp (hcmd (by decide)) hpc (needAsid_withReq hxb hpc ?_)
    rw [hxa (.inr (by decide)), hxb]
    rfl
  case tlbinvAsid =>
    have hxb := hxb (.inr (by decide))
    refine needKernel_withReq hp (hcmd (by decide)) hpc (needAsid_withReq hxb hpc ?_)
    rw [hxb]
    rfl
  case tlbinvGlobal | tlbinvAll => exact needKernel_withReq hp (hcmd (by decide)) hpc rfl
  all_goals exact absurd hu (by decide)

/-- A CSR command reads IMM and PRIV, and `csrwr` reads XA (48_csr.md R2102). -/
theorem exec_csr_withReq (hu : Spec.Csr i) (hxa : ReadsXa i → q.xa = s.req.xa)
    (himm : ReadsImm i → q.imm = s.req.imm) (hp : q.priv = s.req.priv) (hpc : q.pc = s.req.pc) :
    exec i { s with req := q } = withReq q (exec i s) := by
  replace himm := himm (.inr hu)
  unfold Spec.Csr at hu
  cases i
  case csrrd => exact needCsr_withReq himm hp hpc fun _ => rfl
  case csrwr =>
    refine needCsr_withReq himm hp hpc fun c => ?_
    rw [hxa (.inr (by decide))]
    dsimp only
    split
    · cases c <;> rfl
    · exact raise_withReq hpc _ _
  all_goals exact absurd hu (by decide)

end

/-- Settles O22, unit by unit and form by form. -/
theorem unnamedInputsAreIgnored : Obligations.UnnamedInputsAreIgnored := by
  intro i s t q h hxa hxb hxc hva hvb hvc himm hp hcmd hpc
  suffices ha : exec i { s with req := q } = withReq q (exec i s) by rw [ha, h, withReq]
  rcases unit_cases i with hu | hu | hu | hu
  · exact exec_fpu_withReq hu hxa hxb hxc hpc
  · exact exec_simd_withReq hu (hva hu) hvb hvc himm hpc
  · exact exec_tlb_withReq hu hxa hxb hxc (hp (.inl hu)) hcmd hpc
  · exact exec_csr_withReq hu hxa himm (hp (.inr hu)) hpc

end Sys2Proof.Proofs.Forms
end

section
/-! PROOF. The TLB of the model on plain numbers: what the fields of the operands read, and that the model's match rule,
conflict set, permissions and descriptor check are those of the statements (20_memory.md R104 to R111, 47_tlb.md R2010,
R2011). -/

namespace Sys2Proof.Proofs.TlbReadings

open Sys2Proof.Machine Sys2Proof.Spec Sys2Proof.Proofs.SingleCycle

/-! ### The operands -/

/-- The bounds of R11 on the number of TLB entries and the width of an ASID (00_scope.md R11). -/
theorem tlb_sizes_of_legal {c : Params} (h : c.legal = true) : 0 < c.ntlb ∧ c.asidBits ≤ 16 := by
  simp only [Params.legal, Bool.and_eq_true, decide_eq_true_eq, List.contains_iff_mem, List.mem_cons,
    List.not_mem_nil, or_false] at h
  omega

/-- A field of a word, from bit `b` up to below bit `a`, fits a word. -/
theorem ofNat_field_toNat (x : Word) (a b : Nat) :
    (BitVec.ofNat 64 (x.toNat % 2 ^ a / 2 ^ b)).toNat = x.toNat % 2 ^ a / 2 ^ b :=
  Nat.mod_eq_of_lt (((Nat.div_le_self _ _).trans (Nat.mod_le _ _)).trans_lt x.isLt)

/-- A field from bit `b` up to below bit `a` has `a - b` bits. -/
theorem field_lt (n : Nat) {a b : Nat} (h : b ≤ a) : n % 2 ^ a / 2 ^ b < 2 ^ (a - b) := by
  refine Nat.div_lt_of_lt_mul ?_
  rw [← Nat.pow_add, Nat.add_sub_cancel' h]
  exact Nat.mod_lt _ (Nat.two_pow_pos a)

@[simp] theorem vpnOf_toNat (s : State) (va : Word) : (vpnOf s.cfg va).toNat = vpn s va :=
  ofNat_field_toNat va s.cfg.valen s.cfg.ps

theorem asidOf_toNat {c : Params} (hl : c.legal = true) (x : Word) :
    (asidOf c x).toNat = x.toNat % 2 ^ c.asidBits := by
  have hw : 2 ^ c.asidBits ≤ 2 ^ 16 := Nat.pow_le_pow_right (by decide) (tlb_sizes_of_legal hl).2
  exact Nat.mod_eq_of_lt ((Nat.mod_lt _ (Nat.two_pow_pos _)).trans_le hw)

/-- An ASID operand in range is read whole (47_tlb.md R2011). -/
theorem asidOf_toNat_of_asidOk {s : State} (hl : s.cfg.legal = true) (ha : AsidOk s) :
    (asidOf s.cfg s.req.xb).toNat = s.req.xb.toNat := by
  rw [asidOf_toNat hl, Nat.mod_eq_of_lt ha]

/-- Check 2 of R2011 (47_tlb.md R2011). -/
theorem asidInRange_iff (s : State) : asidInRange s.cfg s.req.xb = true ↔ AsidOk s := by
  simp [asidInRange, AsidOk]

/-- Bits `a` to `a + b - 1` of a number are zero. -/
theorem div_mod_two_pow_eq_zero_iff (n a b : Nat) :
    n / 2 ^ a % 2 ^ b = 0 ↔ ∀ k, a ≤ k → k < a + b → n.testBit k = false := by
  constructor
  · intro h k hak hkb
    have hbit := congrArg (·.testBit (k - a)) h
    have hlt : k - a < b := by omega
    simpa [Nat.testBit_mod_two_pow, Nat.testBit_div_two_pow, hlt, Nat.sub_add_cancel hak] using hbit
  · intro h
    refine Nat.zero_of_testBit_eq_false fun k => ?_
    rw [Nat.testBit_mod_two_pow, Nat.testBit_div_two_pow]
    by_cases hk : k < b
    · simp [h (k + a) (by omega) (by omega)]
    · simp [hk]

/-- No bit of a number from `a` on is set. -/
theorem div_two_pow_eq_zero_iff (n a : Nat) : n / 2 ^ a = 0 ↔ ∀ k, a ≤ k → n.testBit k = false := by
  constructor
  · intro h k hak
    have hbit := congrArg (·.testBit (k - a)) h
    simpa [Nat.testBit_div_two_pow, Nat.sub_add_cancel hak] using hbit
  · intro h
    refine Nat.zero_of_testBit_eq_false fun k => ?_
    rw [Nat.testBit_div_two_pow]
    exact h _ (by omega)

/-- Check 3 of R2011 (47_tlb.md R2010). -/
theorem descLegal_iff {s : State} (hl : s.cfg.legal = true) : descLegal s.cfg s.req.xc = true ↔ DescOk s := by
  have hps : 5 + (s.cfg.ps - 5) = s.cfg.ps := by
    have := (address_widths_of_legal s.cfg hl).1
    omega
  rw [descLegal, Bool.and_eq_true, beq_iff_eq, beq_iff_eq, div_mod_two_pow_eq_zero_iff, div_two_pow_eq_zero_iff, hps]
  rfl

/-! ### The entries -/

/-- The match rule for the operands of a lookup (20_memory.md R107). -/
theorem hits_iff_matches {s : State} (hl : s.cfg.legal = true) (ha : AsidOk s) (e : TlbEntry) (va : Word) :
    e.hits (asidOf s.cfg s.req.xb) (vpnOf s.cfg va) = true ↔ Matches e s.req.xb.toNat (vpn s va) := by
  rw [TlbEntry.hits_iff, Matches, ← BitVec.toNat_inj, ← BitVec.toNat_inj, vpnOf_toNat, asidOf_toNat_of_asidOk hl ha]

/-- The conflict set of a fill (20_memory.md R108). -/
theorem conflicts_iff_spec (e n : TlbEntry) : e.conflicts n = true ↔ Conflicts e n := TlbEntry.conflicts_iff e n

/-- The permission checks of a translation (20_memory.md R110). -/
theorem permits_iff (e : TlbEntry) (acc : Access) (p : Priv) :
    Permits e acc p ↔ e.permits acc = true ∧ (p == .U && !e.u) = false := by
  cases acc <;> cases p <;> simp [Permits, TlbEntry.permits]

/-- An entry has the fields of the operands of the fill that writes it (47_tlb.md R2004). -/
theorem fillEntry_isFilled {s : State} (hl : s.cfg.legal = true) (ha : AsidOk s) (hd : DescOk s) :
    IsFilled s (fillEntry s.cfg s.req.xa s.req.xb s.req.xc) := by
  have hlt : s.req.xc.toNat < 2 ^ s.cfg.palen :=
    (Nat.div_eq_zero_iff_lt (Nat.two_pow_pos _)).mp ((div_two_pow_eq_zero_iff _ _).mpr hd.2)
  refine ⟨rfl, vpnOf_toNat s _, asidOf_toNat_of_asidOk hl ha, ?_, rfl, rfl, rfl, rfl, rfl⟩
  rw [fillEntry, ofNat_field_toNat, Nat.mod_eq_of_lt hlt]

/-- Every field of an entry that a fill writes has its width (10_state.md R62). -/
theorem fillEntry_fits {c : Params} (hl : c.legal = true) (va asid desc : Word) :
    (fillEntry c va asid desc).Fits c := by
  obtain ⟨-, hva, -, hpa, -⟩ := address_widths_of_legal c hl
  refine ⟨?_, ?_, ?_⟩
  · exact (ofNat_field_toNat va c.valen c.ps).trans_lt (field_lt _ hva)
  · exact (asidOf_toNat hl asid).trans_lt (Nat.mod_lt _ (Nat.two_pow_pos _))
  · exact (ofNat_field_toNat desc c.palen c.ps).trans_lt (field_lt _ hpa)

/-! ### The lookups -/

@[simp] theorem exec_lookupOf (acc : Access) (s : State) : exec (lookupOf acc) s = tlbLookup acc s := by
  cases acc <;> rfl

section
variable {s : State} {acc : Access} (ha : AsidOk s)
include ha

/-- A lookup whose translation succeeds (47_tlb.md R2001 to R2003). -/
theorem tlbLookup_of_translate_ok {pa : Word}
    (h : Machine.translate s.cfg s.tlb (asidOf s.cfg s.req.xb) s.req.xa acc s.req.priv = .ok pa) :
    tlbLookup acc s = .next (respondScalar s pa) := by
  rw [tlbLookup, needAsid, if_pos ((asidInRange_iff s).mpr ha), h]

/-- A lookup whose translation misses or is refused (47_tlb.md R2011). -/
theorem tlbLookup_of_translate_error {e : FaultCode}
    (h : Machine.translate s.cfg s.tlb (asidOf s.cfg s.req.xb) s.req.xa acc s.req.priv = .error e) :
    tlbLookup acc s = .next (raise s e s.req.xa) := by
  rw [tlbLookup, needAsid, if_pos ((asidInRange_iff s).mpr ha), h]

end

/-- A completed command that changes no state. -/
theorem returns_of_respondScalar {i : Instr} {s : State} {x : Word} (h : exec i s = .next (respondScalar s x)) :
    Returns i s x :=
  ⟨_, h, ⟨rfl, rfl, rfl, rfl, rfl, rfl, rfl, rfl⟩, rfl, rfl, rfl, rfl⟩

end Sys2Proof.Proofs.TlbReadings
end

section
/-! PROOF. The invariant of Safety.lean: it holds at reset (O5) and every step keeps it (O6). -/

namespace Sys2Proof.Proofs.Invariant

open Sys2Proof.Machine Sys2Proof.Spec Sys2Proof.Proofs.TlbReadings

/-! ### FCSR -/

/-- CAUSE has no reserved bit (10_state.md R54). -/
theorem fcsrLegal_withCause {f : BitVec 32} (h : FcsrLegal f) (e : ExcSet) : FcsrLegal (withCause f e) := by
  have he : ∀ e : ExcSet, (e.setWidth 32 <<< 24) &&& ~~~fcsrMask = 0 := by decide
  unfold FcsrLegal at h ⊢
  rw [withCause, BitVec.and_or_distrib_right, he, BitVec.and_assoc, BitVec.and_comm _ (~~~fcsrMask),
    ← BitVec.and_assoc, h]
  simp

/-- FLAGS has no reserved bit (10_state.md R54). -/
theorem fcsrLegal_withFlags {f : BitVec 32} (h : FcsrLegal f) (e : ExcSet) : FcsrLegal (withFlags f e) := by
  have he : ∀ e : ExcSet, (e.setWidth 32 <<< 16) &&& ~~~fcsrMask = 0 := by decide
  unfold FcsrLegal at h ⊢
  rw [withFlags, BitVec.and_or_distrib_right, he, h]
  rfl

/-- A value that `csrwr` accepts for FCSR has no reserved bit (10_state.md R54). -/
theorem fcsrLegal_of_csrValueLegal {c : Params} {x : Word} (h : csrValueLegal c .fcsr x = true) :
    FcsrLegal (x.setWidth 32) := by
  have hx : x &&& ~~~(fcsrMask.setWidth 64) = 0 := by simpa [csrValueLegal] using h
  have hm : ~~~fcsrMask = (~~~(fcsrMask.setWidth 64)).setWidth 32 := by decide
  rw [FcsrLegal, hm, ← BitVec.setWidth_and, hx]
  rfl

/-! ### The TLB -/

theorem invalidateIf_fits {c : Params} {tlb : List TlbEntry} (h : ∀ e ∈ tlb, e.Fits c) (p : TlbEntry → Bool) :
    ∀ e ∈ invalidateIf p tlb, e.Fits c := by
  intro e he
  obtain ⟨e', he', rfl⟩ := List.mem_map.mp he
  split
  · exact h e' he'
  · exact h e' he'

theorem fillTlb_fits {c : Params} {tlb : List TlbEntry} (h : ∀ e ∈ tlb, e.Fits c) {n : TlbEntry} (hn : n.Fits c)
    (rr : Nat) : ∀ e ∈ fillTlb tlb rr n, e.Fits c := by
  intro e he
  rcases List.mem_or_eq_of_mem_set he with he | rfl
  · exact invalidateIf_fits h _ e he
  · exact hn

/-- An entry that matches after some entries have been cleared matched before, and was not to be cleared. -/
theorem hits_of_cleared {p : TlbEntry → Bool} {e : TlbEntry} {asid : BitVec 16} {vpn : BitVec 64}
    (h : (if p e then e.clear else e).hits asid vpn = true) : p e = false ∧ e.hits asid vpn = true := by
  by_cases hp : p e = true
  · simp [hp] at h
  · simpa [hp] using h

/-- Invalidation keeps the matches of every pair unique (20_memory.md R109). -/
theorem tlbUnique_invalidateIf {tlb : List TlbEntry} (h : TlbUnique tlb) (p : TlbEntry → Bool) :
    TlbUnique (invalidateIf p tlb) := by
  intro i j e f asid vpn hi hj he hf
  rw [invalidateIf_getElem?, Option.map_eq_some_iff] at hi hj
  obtain ⟨e', hi, rfl⟩ := hi
  obtain ⟨f', hj, rfl⟩ := hj
  exact h i j e' f' asid vpn hi hj (hits_of_cleared he).2 (hits_of_cleared hf).2

/-- After a fill the slot it wrote holds the new entry, and an entry elsewhere that matches a pair was there before and
does not conflict with the new entry (20_memory.md R108). -/
theorem fillTlb_hit_cases {tlb : List TlbEntry} {rr : Nat} {n e : TlbEntry} {i : Nat} {asid : BitVec 16}
    {vpn : BitVec 64} (hi : (fillTlb tlb rr n)[i]? = some e) (he : e.hits asid vpn = true) :
    (i = fillSlot tlb rr n ∧ e = n) ∨ (tlb[i]? = some e ∧ e.conflicts n = false) := by
  rw [fillTlb_getElem?] at hi
  split_ifs at hi with hs hlt
  · exact .inl ⟨hs.symm, by simpa using hi.symm⟩
  · rw [Option.map_eq_some_iff] at hi
    obtain ⟨e', hi, rfl⟩ := hi
    have hc : e'.conflicts n = false := (hits_of_cleared (p := fun e => e.conflicts n) he).1
    rw [if_neg (Bool.eq_false_iff.mp hc)]
    exact .inr ⟨hi, hc⟩

/-- A fill keeps the matches of every pair unique: what could match beside the new entry was in its conflict set
(20_memory.md R108, R109). -/
theorem tlbUnique_fillTlb {tlb : List TlbEntry} (h : TlbUnique tlb) (rr : Nat) (n : TlbEntry) :
    TlbUnique (fillTlb tlb rr n) := by
  intro i j e f asid vpn hi hj he hf
  rcases fillTlb_hit_cases hi he with ⟨rfl, rfl⟩ | ⟨hi, hce⟩ <;>
    rcases fillTlb_hit_cases hj hf with ⟨rfl, rfl⟩ | ⟨hj, hcf⟩
  · rfl
  · exact absurd (conflicts_of_hits f e asid vpn hf he) (by simp [hcf])
  · exact absurd (conflicts_of_hits e f asid vpn he hf) (by simp [hce])
  · exact h i j e f asid vpn hi hj he hf

theorem fillRr_lt {c : Params} {rr : Nat} (h : rr < c.ntlb) (tlb : List TlbEntry) (n : TlbEntry) :
    fillRr c tlb rr n < c.ntlb := by
  unfold fillRr
  split
  · exact Nat.mod_lt _ (by omega)
  · exact h

/-! ### The state -/

/-- The reset state of a legal unit. -/
theorem inv_resetWith {c : Params} (h : c.legal = true) : (State.resetWith c).Inv where
  cfgLegal := h
  fcsrLegal := by change (0 : BitVec 32) &&& ~~~fcsrMask = 0; decide
  asidFits := Nat.two_pow_pos c.asidBits
  tlbLength := by simp
  tlbFits e he := by
    rw [resetWith_tlb] at he
    rw [List.eq_of_mem_replicate he]
    exact ⟨Nat.two_pow_pos _, Nat.two_pow_pos _, Nat.two_pow_pos _⟩
  tlbUnique i j e f asid vpn hi _ he _ := by
    rw [resetWith_tlb] at hi
    rw [List.eq_of_mem_replicate (List.mem_of_getElem? hi)] at he
    exact absurd he (by simp [TlbEntry.hits, TlbEntry.invalid])
  rrFits := (tlb_sizes_of_legal h).1
  respIdle := by simp

/-- Settles O5: the entries of the reset state are all invalid, so that none matches. -/
theorem resetMeetsInvariant : Obligations.ResetMeetsInvariant :=
  ⟨fun _ h => inv_resetWith h, inv_resetWith (by decide)⟩

section
variable {s : State} (h : s.Inv)
include h

theorem inv_popCycle : s.popCycle.Inv := { h with }

theorem inv_applyReset : (applyReset s).Inv := { inv_resetWith h.cfgLegal with }

theorem inv_accept (r : Request) : (accept s r).Inv := { h with respIdle := nofun }

theorem inv_idle : (idle s).Inv := { h with respIdle := nofun }

theorem inv_wait : (wait s).Inv := { h with respIdle := nofun }

theorem inv_respond (r : Response) : (respond s r).Inv := { h with respIdle := fun _ => rfl }

theorem inv_withFcsr {f : BitVec 32} (hf : FcsrLegal f) : State.Inv { s with fcsr := f } := { h with fcsrLegal := hf }

/-- An invalidation keeps the invariant (47_tlb.md R2006 to R2009). -/
theorem inv_invalidateIf (p : TlbEntry → Bool) : State.Inv { s with tlb := invalidateIf p s.tlb } :=
  { h with
    tlbLength := (invalidateIf_length _ _).trans h.tlbLength
    tlbFits := invalidateIf_fits h.tlbFits p
    tlbUnique := tlbUnique_invalidateIf h.tlbUnique p }

/-- A fill keeps the invariant (20_memory.md R108). -/
theorem inv_fill {n : TlbEntry} (hn : n.Fits s.cfg) :
    State.Inv { s with tlb := fillTlb s.tlb s.rr n, rr := fillRr s.cfg s.tlb s.rr n } :=
  { h with
    tlbLength := (fillTlb_length _ _ _).trans h.tlbLength
    tlbFits := fillTlb_fits h.tlbFits hn s.rr
    tlbUnique := tlbUnique_fillTlb h.tlbUnique s.rr n
    rrFits := fillRr_lt h.rrFits s.tlb n }

/-- A legal write of a CSR keeps the invariant (48_csr.md R2101). -/
theorem inv_setCsr {c : Machine.Csr} {x : Word} (hx : csrValueLegal s.cfg c x = true) : (s.setCsr c x).Inv :=
  match c with
  | .fcsr => inv_withFcsr h (fcsrLegal_of_csrValueLegal hx)
  | .asid => { h with asidFits := (asidOf_toNat h.cfgLegal x).trans_lt (Nat.mod_lt _ (Nat.two_pow_pos _)) }

end

/-! ### The commands -/

/-- The state a result goes on from, if any, meets the invariant. -/
def KeepsInv (o : Result) : Prop := ∀ t, o = .next t → t.Inv

theorem keepsInv_next {t : State} (h : t.Inv) : KeepsInv (.next t) := by
  rintro _ ⟨⟩
  exact h

section
variable {s : State} (h : s.Inv)
include h

theorem keepsInv_raise (e : FaultCode) (v : Word) : KeepsInv (.next (raise s e v)) := keepsInv_next (inv_respond h _)

theorem keepsInv_respondScalar (x : Word) : KeepsInv (.next (respondScalar s x)) := keepsInv_next (inv_respond h _)

theorem keepsInv_fpCommit (r : Word × ExcSet) : KeepsInv (fpCommit s r) := by
  have hc := fcsrLegal_withCause h.fcsrLegal r.2
  by_cases ht : r.2 &&& enablesOf s.fcsr = 0
  · rw [fpCommit_ok s r ht]
    exact keepsInv_respondScalar (inv_withFcsr h (fcsrLegal_withFlags hc r.2)) r.1
  · rw [fpCommit_trap s r ht]
    exact keepsInv_raise (inv_withFcsr h hc) .fpe _

theorem keepsInv_needKernel {k : Result} (hk : KeepsInv k) : KeepsInv (needKernel s k) := by
  unfold needKernel
  split
  · exact hk
  · exact keepsInv_raise h .priv _

theorem keepsInv_needAsid {k : Result} (hk : KeepsInv k) : KeepsInv (needAsid s k) := by
  unfold needAsid
  split
  · exact hk
  · exact keepsInv_raise h .range _

theorem keepsInv_needDesc {k : Result} (hk : KeepsInv k) : KeepsInv (needDesc s k) := by
  unfold needDesc
  split
  · exact hk
  · exact keepsInv_raise h .range _

theorem keepsInv_needCsr {k : Machine.Csr → Result} (hk : ∀ c, KeepsInv (k c)) : KeepsInv (needCsr s k) := by
  unfold needCsr
  split
  · exact keepsInv_raise h .range _
  · split
    · exact hk _
    · exact keepsInv_raise h .priv _

theorem keepsInv_tlbLookup (acc : Access) : KeepsInv (tlbLookup acc s) := by
  refine keepsInv_needAsid h ?_
  split
  · exact keepsInv_respondScalar h _
  · exact keepsInv_raise h _ _

theorem keepsInv_tlbInvalidate (p : TlbEntry → Bool) : KeepsInv (tlbInvalidate p s) :=
  keepsInv_respondScalar (inv_invalidateIf h p) 0

theorem keepsInv_execTlbfill : KeepsInv (execTlbfill s) :=
  have hn := fillEntry_fits h.cfgLegal s.req.xa s.req.xb s.req.xc
  keepsInv_needKernel h (keepsInv_needAsid h (keepsInv_needDesc h (keepsInv_respondScalar (inv_fill h hn) _)))

theorem keepsInv_exec_tlb {i : Instr} (hi : Tlb i) : KeepsInv (exec i s) := by
  unfold Tlb at hi
  cases i
  case tlblookupR | tlblookupW | tlblookupX => exact keepsInv_tlbLookup h _
  case tlbfill => exact keepsInv_execTlbfill h
  case tlbprobe => exact keepsInv_needKernel h (keepsInv_respondScalar h _)
  case tlbinvPage | tlbinvAsid => exact keepsInv_needKernel h (keepsInv_needAsid h (keepsInv_tlbInvalidate h _))
  case tlbinvGlobal | tlbinvAll => exact keepsInv_needKernel h (keepsInv_tlbInvalidate h _)
  all_goals exact absurd hi (by decide)

theorem keepsInv_execCsrwr : KeepsInv (execCsrwr s) := by
  refine keepsInv_needCsr h fun c => ?_
  split
  next hx => exact keepsInv_respondScalar (inv_setCsr h hx) _
  next => exact keepsInv_raise h .range _

theorem keepsInv_exec_csr {i : Instr} (hi : Spec.Csr i) : KeepsInv (exec i s) := by
  unfold Spec.Csr at hi
  cases i
  case csrrd => exact keepsInv_needCsr h fun c => keepsInv_respondScalar h _
  case csrwr => exact keepsInv_execCsrwr h
  all_goals exact absurd hi (by decide)

/-- Every command of every unit keeps the invariant. -/
theorem keepsInv_exec (i : Instr) : KeepsInv (exec i s) := by
  rcases unit_cases i with hi | hi | hi | hi
  · obtain ⟨r, hr⟩ := exec_fpu i s hi
    exact hr ▸ keepsInv_fpCommit h r
  · rcases exec_simd i s hi with ⟨v, hv⟩ | hv
    · exact hv ▸ keepsInv_next (inv_respond h _)
    · exact hv ▸ keepsInv_raise h .illegalImm _
  · exact keepsInv_exec_tlb h hi
  · exact keepsInv_exec_csr h hi

theorem keepsInv_answer : KeepsInv (answer s) := by
  cases hd : decode s.req.cmd with
  | ok i => exact answer_ok s i hd ▸ keepsInv_exec h i
  | error e => exact answer_error s e hd ▸ keepsInv_raise h .illegalOp _

theorem keepsInv_step : KeepsInv (step s) := by
  have hp := inv_popCycle h
  rcases step_cases s with ⟨-, hs⟩ | ⟨-, -, hs⟩ | ⟨-, -, -, ⟨r, -, hs⟩ | ⟨-, hs⟩⟩ | ⟨-, -, -, hs⟩ | ⟨-, -, -, hs⟩
  · exact hs ▸ nofun
  · exact hs ▸ keepsInv_next (inv_applyReset hp)
  · exact hs ▸ keepsInv_next (inv_accept hp r)
  · exact hs ▸ keepsInv_next (inv_idle hp)
  · exact hs ▸ keepsInv_answer hp
  · exact hs ▸ keepsInv_next (inv_wait hp)

end

/-- Settles O6: a step resets, accepts, idles, waits or answers, and each of these keeps the invariant. -/
theorem stepKeepsInvariant : Obligations.StepKeepsInvariant := fun _ t h ht => keepsInv_step h t ht

end Sys2Proof.Proofs.Invariant
end

section
/-! PROOF. What a lookup returns (O50) and which entries it never reads (O57). -/

namespace Sys2Proof.Proofs.Lookups

open Sys2Proof.Machine Sys2Proof.Spec Sys2Proof.Proofs.SingleCycle Sys2Proof.Proofs.TlbReadings

/-- In a TLB with unique matches the search finds the entry that matches (20_memory.md R109). -/
theorem find?_hits_of_unique {tlb : List TlbEntry} (hu : TlbUnique tlb) {i : Nat} {e : TlbEntry} {asid : BitVec 16}
    {vpn : BitVec 64} (hi : tlb[i]? = some e) (he : e.hits asid vpn = true) :
    tlb.find? (fun f => f.hits asid vpn) = some e := by
  obtain ⟨f, hf⟩ : ∃ f, tlb.find? (fun f => f.hits asid vpn) = some f :=
    Option.isSome_iff_exists.mp (List.find?_isSome.mpr ⟨e, List.mem_of_getElem? hi, he⟩)
  obtain ⟨hfh, j, hj, hjf, -⟩ := List.find?_eq_some_iff_getElem.mp hf
  have hj : tlb[j]? = some f := List.getElem?_eq_some_iff.mpr ⟨hj, hjf⟩
  obtain rfl := hu i j e f asid vpn hi hj he hfh
  rw [hf, ← hj, hi]

/-- The search passes over entries that do not match, whatever they are. -/
theorem find?_eq_of_differ_outside {α : Type} {p : α → Bool} {l l' : List α} (hlen : l'.length = l.length)
    (h : ∀ (k : Nat) (e f : α), l[k]? = some e → l'[k]? = some f → e = f ∨ p e = false ∧ p f = false) :
    l'.find? p = l.find? p := by
  induction l generalizing l' with
  | nil => rw [List.eq_nil_of_length_eq_zero hlen]
  | cons e l ih =>
    cases l' with
    | nil => simp at hlen
    | cons f l' =>
      have ih := ih (by simpa using hlen) fun k => h (k + 1)
      rcases h 0 e f rfl rfl with rfl | ⟨he, hf⟩
      · rw [List.find?_cons, List.find?_cons, ih]
      · rw [List.find?_cons_of_neg (Bool.eq_false_iff.mp he), List.find?_cons_of_neg (Bool.eq_false_iff.mp hf), ih]

/-- A translation that finds an entry that permits it (20_memory.md R110). -/
theorem translate_of_find?_permits {c : Params} {tlb : List TlbEntry} {asid : BitVec 16} {va : Word} {acc : Access}
    {p : Priv} {e : TlbEntry} (h : tlb.find? (fun f => f.hits asid (vpnOf c va)) = some e) (hp : Permits e acc p) :
    Machine.translate c tlb asid va acc p = .ok (physAddr c e va) := by
  obtain ⟨hacc, hpriv⟩ := (permits_iff e acc p).mp hp
  simp [Machine.translate, h, hacc, hpriv]

/-- The physical address of an entry whose PPN has its width (20_memory.md R111). -/
theorem physAddr_toNat {c : Params} {e : TlbEntry} (hl : c.legal = true) (hf : e.Fits c) (va : Word) :
    (physAddr c e va).toNat = e.ppn.toNat * 2 ^ c.ps + va.toNat % 2 ^ c.ps ∧
      (physAddr c e va).toNat < 2 ^ c.palen := by
  obtain ⟨-, -, -, hpa, hpa64⟩ := address_widths_of_legal c hl
  have hoff : va.toNat % 2 ^ c.ps < 2 ^ c.ps := Nat.mod_lt _ (Nat.two_pow_pos _)
  have hlt : e.ppn.toNat * 2 ^ c.ps + va.toNat % 2 ^ c.ps < 2 ^ c.palen := by
    calc e.ppn.toNat * 2 ^ c.ps + va.toNat % 2 ^ c.ps < (e.ppn.toNat + 1) * 2 ^ c.ps := by
          rw [Nat.succ_mul]
          omega
      _ ≤ 2 ^ (c.palen - c.ps) * 2 ^ c.ps := Nat.mul_le_mul_right _ hf.2.2
      _ = 2 ^ c.palen := by rw [← Nat.pow_add, Nat.sub_add_cancel hpa]
  have heq : (physAddr c e va).toNat = e.ppn.toNat * 2 ^ c.ps + va.toNat % 2 ^ c.ps :=
    Nat.mod_eq_of_lt (hlt.trans_le (Nat.pow_le_pow_right (by decide) hpa64))
  exact ⟨heq, heq ▸ hlt⟩

/-- Settles O50: the search finds the entry, and its PPN and the page offset fit PALEN bits. -/
theorem lookupHitGivesPhysicalAddress : Obligations.LookupHitGivesPhysicalAddress := by
  intro s acc i e h ha hi hm hp
  have he := (hits_iff_matches h.cfgLegal ha e s.req.xa).mpr hm
  have ht := translate_of_find?_permits (find?_hits_of_unique h.tlbUnique hi he) hp
  obtain ⟨heq, hlt⟩ := physAddr_toNat h.cfgLegal (h.tlbFits e (List.mem_of_getElem? hi)) s.req.xa
  exact ⟨_, heq, hlt, returns_of_respondScalar ((exec_lookupOf acc s).trans (tlbLookup_of_translate_ok ha ht))⟩

/-- A translation reads of the TLB only the entry that the search finds. -/
theorem translate_congr {c : Params} {tlb tlb' : List TlbEntry} {asid : BitVec 16} {va : Word}
    (h : tlb'.find? (fun e => e.hits asid (vpnOf c va)) = tlb.find? (fun e => e.hits asid (vpnOf c va)))
    (acc : Access) (p : Priv) : Machine.translate c tlb' asid va acc p = Machine.translate c tlb asid va acc p := by
  rw [Machine.translate, Machine.translate, h]

/-- A non-global entry of another ASID does not match (20_memory.md R107, R112). -/
theorem not_hits_of_foreign {s : State} (hl : s.cfg.legal = true) (ha : AsidOk s) {e : TlbEntry}
    (hg : e.g = false) (he : e.asid.toNat ≠ s.req.xb.toNat) (va : Word) :
    e.hits (asidOf s.cfg s.req.xb) (vpnOf s.cfg va) = false := by
  rw [← Bool.not_eq_true, hits_iff_matches hl ha]
  rintro ⟨-, -, h | h⟩
  · simp [hg] at h
  · exact he h

/-- Settles O57: the search finds the same entry in both TLBs. -/
theorem lookupIgnoresForeignEntries : Obligations.LookupIgnoresForeignEntries := by
  intro s acc tlb hl ha hlen h
  have hfind := find?_eq_of_differ_outside
    (p := fun e => e.hits (asidOf s.cfg s.req.xb) (vpnOf s.cfg s.req.xa)) hlen fun k e f he hf =>
      (h k e f he hf).imp_right fun ⟨heg, hea, hfg, hfa⟩ =>
        ⟨not_hits_of_foreign hl ha heg hea _, not_hits_of_foreign hl ha hfg hfa _⟩
  have heq := translate_congr hfind acc s.req.priv
  have ha' : AsidOk { s with tlb := tlb } := ha
  rw [exec_lookupOf, exec_lookupOf]
  cases ht : Machine.translate s.cfg s.tlb (asidOf s.cfg s.req.xb) s.req.xa acc s.req.priv with
  | ok pa =>
    exact ⟨_, _, tlbLookup_of_translate_ok ha ht, tlbLookup_of_translate_ok ha' (heq.trans ht), rfl⟩
  | error e =>
    exact ⟨_, _, tlbLookup_of_translate_error ha ht, tlbLookup_of_translate_error ha' (heq.trans ht), rfl⟩

end Sys2Proof.Proofs.Lookups
end

section
/-! PROOF. The slot of a fill, and the TLB and RR after it (O52). -/

namespace Sys2Proof.Proofs.Fill

open Sys2Proof.Machine Sys2Proof.Spec Sys2Proof.Proofs.TlbReadings

/-- The lowest index at which a property holds, as a search finds it. -/
theorem findIdx?_lowest {α : Type} {p : α → Bool} {l : List α} {k : Nat} (h : l.findIdx? p = some k) :
    (∃ e, l[k]? = some e ∧ p e = true) ∧ ∀ j < k, ∀ e, l[j]? = some e → p e = false := by
  obtain ⟨hk, hp, hlow⟩ := List.findIdx?_eq_some_iff_getElem.mp h
  refine ⟨⟨l[k], List.getElem?_eq_getElem hk, hp⟩, fun j hj e he => ?_⟩
  obtain ⟨_, rfl⟩ := List.getElem?_eq_some_iff.mp he
  exact Bool.not_eq_true _ ▸ hlow j hj

/-- The three ways of a fill: into the lowest slot of the conflict set, else into the lowest invalid slot, else into the
slot RR names, and only then RR advances (20_memory.md R108). -/
theorem fill_cases (c : Params) (tlb : List TlbEntry) (rr : Nat) (n : TlbEntry) :
    ((∃ e, tlb[fillSlot tlb rr n]? = some e ∧ Conflicts e n) ∧
        (∀ j < fillSlot tlb rr n, ∀ e, tlb[j]? = some e → ¬Conflicts e n) ∧ fillRr c tlb rr n = rr) ∨
      ((∀ e ∈ tlb, ¬Conflicts e n) ∧ (∃ e, tlb[fillSlot tlb rr n]? = some e ∧ e.v = false) ∧
        (∀ j < fillSlot tlb rr n, ∀ e, tlb[j]? = some e → e.v = true) ∧ fillRr c tlb rr n = rr) ∨
      ((∀ e ∈ tlb, ¬Conflicts e n ∧ e.v = true) ∧ fillSlot tlb rr n = rr ∧ fillRr c tlb rr n = (rr + 1) % c.ntlb) := by
  simp only [← conflicts_iff_spec, Bool.not_eq_true]
  cases hc : tlb.findIdx? (fun e => e.conflicts n) with
  | some k =>
    have hs : fillSlot tlb rr n = k := by simp [fillSlot, hc]
    obtain ⟨⟨e, he, hp⟩, hlow⟩ := findIdx?_lowest hc
    have hr : fillRr c tlb rr n = rr := by
      refine if_neg fun hall => ?_
      simpa [hp] using List.all_eq_true.mp hall e (List.mem_of_getElem? he)
    exact .inl (hs ▸ ⟨⟨e, he, hp⟩, hlow, hr⟩)
  | none =>
    have hno := List.findIdx?_eq_none_iff.mp hc
    cases hv : tlb.findIdx? (fun e => !e.v) with
    | some k =>
      have hs : fillSlot tlb rr n = k := by simp [fillSlot, hc, hv]
      obtain ⟨⟨e, he, hp⟩, hlow⟩ := findIdx?_lowest hv
      simp only [Bool.not_eq_true', Bool.not_eq_false'] at hp hlow
      have hr : fillRr c tlb rr n = rr := by
        refine if_neg fun hall => ?_
        simpa [hp] using List.all_eq_true.mp hall e (List.mem_of_getElem? he)
      exact .inr (.inl (hs ▸ ⟨hno, ⟨e, he, hp⟩, hlow, hr⟩))
    | none =>
      have hs : fillSlot tlb rr n = rr := by simp [fillSlot, hc, hv]
      have hval : ∀ e ∈ tlb, e.v = true := by simpa using List.findIdx?_eq_none_iff.mp hv
      have hall : fillEvicts tlb n = true := List.all_eq_true.mpr fun e he => by simp [hno e he, hval e he]
      exact .inr (.inr ⟨fun e he => ⟨hno e he, hval e he⟩, hs, if_pos hall⟩)

/-- The slot a fill writes holds the new entry. -/
theorem fillTlb_at_slot {tlb : List TlbEntry} {rr : Nat} (h : rr < tlb.length) (n : TlbEntry) :
    (fillTlb tlb rr n)[fillSlot tlb rr n]? = some n := by
  rw [fillTlb_getElem?, if_pos rfl, if_pos (fillSlot_lt tlb rr n h)]

/-- Every other slot keeps its entry, with V cleared if it conflicts with the new one (20_memory.md R108). -/
theorem fillTlb_elsewhere {tlb : List TlbEntry} {rr j : Nat} {n e : TlbEntry} (hj : j ≠ fillSlot tlb rr n)
    (he : tlb[j]? = some e) :
    (Conflicts e n → (fillTlb tlb rr n)[j]? = some { e with v := false }) ∧
      (¬Conflicts e n → (fillTlb tlb rr n)[j]? = some e) := by
  rw [fillTlb_getElem?, if_neg hj.symm, he, ← conflicts_iff_spec]
  exact ⟨fun hc => by simp [hc, TlbEntry.clear], fun hc => by simp [hc]⟩

/-- A fill that passes the three checks (47_tlb.md R2004, R2011). -/
theorem exec_tlbfill_ok {s : State} {n : TlbEntry} (hn : n = fillEntry s.cfg s.req.xa s.req.xb s.req.xc)
    (hl : s.cfg.legal = true) (hp : s.req.priv = .K) (ha : AsidOk s) (hd : DescOk s) :
    exec .tlbfill s = .next (respondScalar
      { s with tlb := fillTlb s.tlb s.rr n, rr := fillRr s.cfg s.tlb s.rr n }
      (BitVec.ofNat 64 (fillSlot s.tlb s.rr n))) := by
  subst hn
  change execTlbfill s = _
  simp only [execTlbfill, needKernel, hp, needAsid, (asidInRange_iff s).mpr ha, needDesc, (descLegal_iff hl).mpr hd,
    if_true]

/-- Settles O52, by the three ways of a fill. -/
theorem fillPlacesEntry : Obligations.FillPlacesEntry := by
  intro s h hp ha hd
  have hrr : s.rr < s.tlb.length := h.tlbLength ▸ h.rrFits
  exact ⟨_, _, _, exec_tlbfill_ok rfl h.cfgLegal hp ha hd, ⟨rfl, rfl, rfl, rfl, rfl, rfl, rfl, rfl⟩,
    fillEntry_isFilled h.cfgLegal ha hd, h.tlbLength ▸ fillSlot_lt _ _ _ hrr, rfl, rfl, fillTlb_length _ _ _,
    fillTlb_at_slot hrr _, fun _ _ => fillTlb_elsewhere, fill_cases s.cfg s.tlb s.rr _⟩

end Sys2Proof.Proofs.Fill
end

section
/-! PROOF. The bits of XA at and above VALEN (O58): two requests that differ in them alone translate alike. -/

namespace Sys2Proof.Proofs.HighBits

open Sys2Proof.Machine Sys2Proof.Spec Sys2Proof.Proofs.SingleCycle Sys2Proof.Proofs.Responses

/-- The state with XA of the request in flight replaced by `xa`. -/
abbrev withXa (s : State) (xa : Word) : State := { s with req := { s.req with xa := xa } }

/-- The answers of a TLB command to the request of `s` and to that with `xa` for its XA: the same effect and result, the
same fault of a check, or a translation that misses or is refused, each with its own XA. -/
inductive AlikeButXa (s : State) (xa : Word) : Result → Result → Prop
  | ok (tlb : List TlbEntry) (rr : Nat) (x : Word) :
    AlikeButXa s xa (.next (respondScalar { s with tlb := tlb, rr := rr } x))
      (.next (respondScalar { withXa s xa with tlb := tlb, rr := rr } x))
  | check (e : FaultCode) (v : Word) (he : e ∈ [FaultCode.priv, .range]) :
    AlikeButXa s xa (.next (raise s e v)) (.next (raise (withXa s xa) e v))
  | translation (e : FaultCode) (he : e = .tlbMiss ∨ e = .tlbPerm) :
    AlikeButXa s xa (.next (raise s e s.req.xa)) (.next (raise (withXa s xa) e xa))

section
variable {s : State} {xa : Word} {k k' : Result}

theorem AlikeButXa.needKernel (h : AlikeButXa s xa k k') :
    AlikeButXa s xa (needKernel s k) (needKernel (withXa s xa) k') := by
  unfold Machine.needKernel
  dsimp only [withXa]
  split
  · exact h
  · exact .check .priv _ (by decide)

theorem AlikeButXa.needAsid (h : AlikeButXa s xa k k') : AlikeButXa s xa (needAsid s k) (needAsid (withXa s xa) k') := by
  unfold Machine.needAsid
  dsimp only [withXa]
  split
  · exact h
  · exact .check .range _ (by decide)

theorem AlikeButXa.needDesc (h : AlikeButXa s xa k k') : AlikeButXa s xa (needDesc s k) (needDesc (withXa s xa) k') := by
  unfold Machine.needDesc
  dsimp only [withXa]
  split
  · exact h
  · exact .check .range _ (by decide)

end

/-- The virtual page number reads the bits of XA below VALEN alone (20_memory.md R104). -/
theorem vpnOf_congr {c : Params} {x y : Word} (h : x.toNat % 2 ^ c.valen = y.toNat % 2 ^ c.valen) :
    vpnOf c x = vpnOf c y := by
  rw [vpnOf, vpnOf, h]

/-- The page offset reads the bits of XA below PS alone, which are below VALEN (20_memory.md R104). -/
theorem offOf_congr {c : Params} {x y : Word} (hl : c.legal = true)
    (h : x.toNat % 2 ^ c.valen = y.toNat % 2 ^ c.valen) : offOf c x = offOf c y := by
  have hdvd : 2 ^ c.ps ∣ 2 ^ c.valen := Nat.pow_dvd_pow 2 (address_widths_of_legal c hl).2.1
  rw [offOf, offOf, ← Nat.mod_mod_of_dvd x.toNat hdvd, h, Nat.mod_mod_of_dvd _ hdvd]

/-- The low bits of two words agree as numbers. -/
theorem mod_two_pow_eq_of_getLsbD {x y : Word} {n : Nat} (h : ∀ k < n, x.getLsbD k = y.getLsbD k) :
    x.toNat % 2 ^ n = y.toNat % 2 ^ n := by
  refine Nat.eq_of_testBit_eq fun k => ?_
  rw [Nat.testBit_mod_two_pow, Nat.testBit_mod_two_pow]
  by_cases hk : k < n
  · rw [decide_eq_true hk, Bool.true_and, Bool.true_and]
    exact h k hk
  · simp [hk]

section
variable {s : State} {xa : Word} (hl : s.cfg.legal = true)
  (hxa : xa.toNat % 2 ^ s.cfg.valen = s.req.xa.toNat % 2 ^ s.cfg.valen)
include hl hxa

/-- A lookup reads of XA the page number and the offset (20_memory.md R110). -/
theorem tlbLookup_alike (acc : Access) : AlikeButXa s xa (tlbLookup acc s) (tlbLookup acc (withXa s xa)) := by
  refine AlikeButXa.needAsid ?_
  have ht (asid : BitVec 16) :
      Machine.translate s.cfg s.tlb asid xa acc s.req.priv =
        Machine.translate s.cfg s.tlb asid s.req.xa acc s.req.priv := by
    unfold Machine.translate physAddr
    rw [vpnOf_congr hxa, offOf_congr hl hxa]
  dsimp only [withXa]
  rw [ht]
  split
  · exact .ok s.tlb s.rr _
  next e he => exact .translation e (translate_error he)

/-- Every TLB command reads of XA the page number and, if it is a lookup, the offset (20_memory.md R104). -/
theorem exec_tlb_alike {i : Instr} (hi : Tlb i) : AlikeButXa s xa (exec i s) (exec i (withXa s xa)) := by
  have hvpn := vpnOf_congr hxa
  unfold Tlb at hi
  cases i
  case tlblookupR | tlblookupW | tlblookupX => exact tlbLookup_alike hl hxa _
  case tlbfill =>
    have hn : fillEntry s.cfg xa s.req.xb s.req.xc = fillEntry s.cfg s.req.xa s.req.xb s.req.xc := by
      rw [fillEntry, fillEntry, hvpn]
    refine .needKernel (.needAsid (.needDesc ?_))
    dsimp only [withXa]
    rw [hn]
    exact .ok _ _ _
  case tlbprobe =>
    refine .needKernel ?_
    dsimp only [withXa]
    rw [hvpn]
    exact .ok s.tlb s.rr _
  case tlbinvPage =>
    refine .needKernel (.needAsid ?_)
    dsimp only [withXa]
    rw [hvpn]
    exact .ok _ s.rr _
  case tlbinvAsid => exact .needKernel (.needAsid (.ok _ s.rr _))
  case tlbinvGlobal | tlbinvAll => exact .needKernel (.ok _ s.rr _)
  all_goals exact absurd hi (by decide)

end

/-- FCODE of a check is neither that of a miss nor that of a refusal (60_exceptions.md R2200). -/
theorem code_of_check {e : FaultCode} (he : e ∈ [FaultCode.priv, .range]) : e.code ≠ 5 ∧ e.code ≠ 6 := by
  revert e
  decide

/-- Settles O58, by the three ways in which two answers are alike. -/
theorem highAddressBitsAreIgnored : Obligations.HighAddressBitsAreIgnored := by
  intro i s t u xa hi hl hxa ht hu
  have h := exec_tlb_alike hl (mod_two_pow_eq_of_getLsbD hxa) hi
  rw [ht, withXa, hu] at h
  cases h with
  | ok tlb rr x => exact ⟨⟨rfl, rfl, rfl, rfl⟩, rfl, rfl, rfl, rfl, rfl, fun _ _ => rfl, by simp⟩
  | check e v he =>
    have hcode : ¬(e.code = 5 ∨ e.code = 6) := not_or.mpr (code_of_check he)
    exact ⟨⟨rfl, rfl, rfl, rfl⟩, rfl, rfl, rfl, rfl, rfl, fun _ _ => rfl, fun h => absurd h hcode⟩
  | translation e he =>
    refine ⟨⟨rfl, rfl, rfl, rfl⟩, rfl, rfl, rfl, rfl, rfl, ?_, fun _ => ⟨rfl, rfl⟩⟩
    rcases he with rfl | rfl <;> simp [FaultCode.code]

end Sys2Proof.Proofs.HighBits
end

section
/-! PROOF. The command words: the decoder reads a command from its own word and from no other (O1), the words it accepts
are those with legal fields (O2), words of the listing (O3), and the answer to a word that is no command (O9). -/

namespace Sys2Proof.Proofs.Encoding

open Sys2Proof.Machine Sys2Proof.Spec Sys2Proof.Proofs.SingleCycle

/-! ### The fields of a word -/

/-- A field put back at its place holds the bits of the word from `lo` up to `lo + n`, and no other bit. -/
theorem getLsbD_field (w : Cmd) {lo n k : Nat} (hk : k < 32) :
    ((w.extractLsb' lo n).setWidth 32 <<< lo).getLsbD k = (decide (lo ≤ k ∧ k < lo + n) && w.getLsbD k) := by
  by_cases hlo : lo ≤ k
  · have hn : k - lo < n ↔ k < lo + n := by omega
    simp [hk, hlo, hn, Nat.not_lt.mpr hlo]
  · simp [hlo, Nat.not_le.mp hlo]

/-- The six fields lie side by side and fill the word: no bit of it is dropped (30_encoding.md R150). -/
theorem toCmd_ofCmd (w : Cmd) : (Fields.ofCmd w).toCmd = w := by
  refine BitVec.eq_of_getLsbD_eq fun k hk => ?_
  have hrsv := getLsbD_field w (lo := 0) (n := 11) hk
  rw [BitVec.shiftLeft_zero] at hrsv
  unfold Fields.toCmd Fields.ofCmd
  simp only [BitVec.getLsbD_or, getLsbD_field w hk, hrsv, ← Bool.and_or_distrib_right, ← Bool.decide_or]
  rw [decide_eq_true (by omega), Bool.true_and]

/-! ### Every command is read from its own word -/

/-- The law of Laws/PerInstr.lean for every command. -/
theorem fieldsLegal (i : Instr) : Laws.FieldsLegal.Statement i := by
  cases i <;> exact ⟨rfl, rfl⟩

/-- The tables of the decoder hold every command at the place its fields name. -/
theorem decodeFields_fields (i : Instr) : decodeFields i.fields = .ok i := by
  cases i <;> rfl

theorem decode_encode (i : Instr) : decode (encode i) = .ok i := by
  obtain ⟨-, hw⟩ := fieldsLegal i
  rw [decode, hw, decodeFields_fields]

/-! ### A command that is read has the fields of the word -/

/-- The fields of a command that the outcome `r` of the decoder gives are `f`. -/
def Reads (f : Fields) (r : Except DecodeError Instr) : Prop := ∀ i, r = .ok i → i.fields = f

theorem Reads.error (f : Fields) (e : DecodeError) : Reads f (.error e) := nofun

theorem Reads.pick {f : Fields} {row : List Instr} {k : Nat} (e : DecodeError)
    (h : ∀ i, row[k]? = some i → i.fields = f) : Reads f (pick row k e) := by
  unfold Sys2Proof.pick
  split
  next j hj =>
    rintro i ⟨⟩
    exact h j hj
  next => exact .error f e

/-- Every command in a table by SGN and WID has the operation `o` of the unit `u` and the place's SGN and WID. -/
abbrev TableBySgnWid (u o : Nat) (table : List (List Instr)) : Prop :=
  ∀ p ∈ table.zipIdx, ∀ q ∈ p.1.zipIdx, q.1.fields = ⟨.ofNat 4 u, .ofNat 8 o, .ofNat 4 q.2, .ofNat 2 p.2, 0, 0⟩

/-- Every command in a table by SGN, WID and RND has the operation `o` of the unit `u` and the place's three fields. -/
abbrev TableBySgnWidRnd (u o : Nat) (table : List (List (List Instr))) : Prop :=
  ∀ p ∈ table.zipIdx, ∀ q ∈ p.1.zipIdx, ∀ r ∈ q.1.zipIdx,
    r.1.fields = ⟨.ofNat 4 u, .ofNat 8 o, .ofNat 4 q.2, .ofNat 2 p.2, .ofNat 3 r.2, 0⟩

/-- Every command in a row that begins at WID 1 has the operation `o` of the unit `u` and the place's WID. -/
abbrev RowFromOne (u o : Nat) (row : List Instr) : Prop :=
  ∀ q ∈ row.zipIdx, q.1.fields = ⟨.ofNat 4 u, .ofNat 8 o, .ofNat 4 (q.2 + 1), 0, 0, 0⟩

section
variable {f : Fields} {u o : Nat} (hrsv : f.rsv = 0) (hu : f.unit.toNat = u) (ho : f.op.toNat = o)
include hrsv hu ho

theorem Reads.bySgnWid {table : List (List Instr)} (ht : TableBySgnWid u o table) : Reads f (bySgnWid f table) := by
  unfold Sys2Proof.bySgnWid
  split
  next hrnd =>
    split
    next row hrow =>
      refine .pick _ fun i hi => ?_
      rw [ht (row, f.sgn.toNat) (List.mem_zipIdx_iff_getElem?.mpr hrow) (i, f.wid.toNat)
        (List.mem_zipIdx_iff_getElem?.mpr hi), ← hu, ← ho, ← hrsv, ← hrnd]
      simp
    next => exact .error f _
  next => exact .error f _

theorem Reads.bySgnWidRnd {table : List (List (List Instr))} (ht : TableBySgnWidRnd u o table) :
    Reads f (bySgnWidRnd f table) := by
  unfold Sys2Proof.bySgnWidRnd
  split
  next rows hrows =>
    split
    next row hrow =>
      refine .pick _ fun i hi => ?_
      rw [ht (rows, f.sgn.toNat) (List.mem_zipIdx_iff_getElem?.mpr hrows) (row, f.wid.toNat)
        (List.mem_zipIdx_iff_getElem?.mpr hrow) (i, f.rnd.toNat) (List.mem_zipIdx_iff_getElem?.mpr hi),
        ← hu, ← ho, ← hrsv]
      simp
    next => exact .error f _
  next => exact .error f _

theorem Reads.byWidFromOne {row : List Instr} (ht : RowFromOne u o row) : Reads f (byWidFromOne f row) := by
  unfold Sys2Proof.byWidFromOne
  split_ifs with hrnd hsgn hwid
  · exact .error f _
  · refine .pick _ fun i hi => ?_
    have hpos : f.wid.toNat - 1 + 1 = f.wid.toNat :=
      Nat.sub_add_cancel (Nat.pos_of_ne_zero fun h => hwid (BitVec.eq_of_toNat_eq h))
    rw [ht (i, f.wid.toNat - 1) (List.mem_zipIdx_iff_getElem?.mpr hi), hpos, ← hu, ← ho, ← hrsv, ← hrnd, ← hsgn]
    simp
  · exact .error f _
  · exact .error f _

end

section
variable {f : Fields} (hrsv : f.rsv = 0)
include hrsv

/-- The FPU commands: ftint has a table with RND, every other operation one without. -/
theorem Reads.decodeFpu (hu : f.unit.toNat = 1) : Reads f (decodeFpu f) := by
  unfold Sys2Proof.decodeFpu
  split
  case h_24 ho => exact .bySgnWidRnd hrsv hu ho (by decide)
  case h_26 => exact .error f _
  all_goals exact .bySgnWid hrsv hu ‹_› (by decide)

/-- The SIMD commands: the three narrowing operations have a row from WID 1, every other operation a table. -/
theorem Reads.decodeSimd (hu : f.unit.toNat = 2) : Reads f (decodeSimd f) := by
  unfold Sys2Proof.decodeSimd
  split
  case h_29 ho | h_30 ho | h_31 ho => exact .byWidFromOne hrsv hu ho (by decide)
  case h_32 => exact .error f _
  all_goals exact .bySgnWid hrsv hu ‹_› (by decide)

theorem Reads.decodeTlb (hu : f.unit.toNat = 3) : Reads f (decodeTlb f) := by
  unfold Sys2Proof.decodeTlb
  split
  case h_10 => exact .error f _
  all_goals exact .bySgnWid hrsv hu ‹_› (by decide)

theorem Reads.decodeCsr (hu : f.unit.toNat = 4) : Reads f (decodeCsr f) := by
  unfold Sys2Proof.decodeCsr
  split
  case h_3 => exact .error f _
  all_goals exact .bySgnWid hrsv hu ‹_› (by decide)

end

theorem Reads.decodeFields (f : Fields) : Reads f (decodeFields f) := by
  unfold Sys2Proof.decodeFields
  split
  next hrsv =>
    split
    next hu => exact .decodeFpu hrsv hu
    next hu => exact .decodeSimd hrsv hu
    next hu => exact .decodeTlb hrsv hu
    next hu => exact .decodeCsr hrsv hu
    next => exact .error f _
  next => exact .error f _

/-- Settles O1: a command that is read has the fields of the word, and these fill the word. -/
theorem decodeIsInverseOfEncode : Obligations.DecodeIsInverseOfEncode := by
  refine fun w i => ⟨fun h => ?_, fun h => h ▸ decode_encode i⟩
  rw [encode, Reads.decodeFields _ i h, toCmd_ofCmd]

/-! ### Legal fields are those of a command -/

/-- What the six tests of WellFormed.lean say together. -/
theorem fields_of_wellFormed {f : Fields} (h : f.wellFormed = true) :
    f.rsv = 0 ∧ f.unit.toNat < 5 ∧ ∃ row, opRow f.unit.toNat f.op.toNat = some row ∧
      f.wid.toNat ∈ row.wids ∧ f.sgn.toNat ∈ row.sgns ∧ f.rnd.toNat ∈ row.rnds := by
  unfold Fields.wellFormed Fields.reservedZero Fields.unitLegal Fields.opLegal Fields.widLegal Fields.sgnLegal
    Fields.rndLegal at h
  cases hrow : opRow f.unit.toNat f.op.toNat with
  | none => simp [hrow] at h
  | some row =>
    simp only [hrow, Option.isSome_some, Option.map_some, Option.getD_some, Bool.and_eq_true, beq_iff_eq,
      decide_eq_true_eq, List.contains_iff_mem] at h
    obtain ⟨⟨⟨⟨⟨hrsv, -, hu⟩, -⟩, hw⟩, hs⟩, hr⟩ := h
    exact ⟨hrsv, Nat.lt_succ_of_le hu, row, rfl, hw, hs, hr⟩

/-- No unit lists an operation past 0x33. -/
theorem op_lt_of_opRow {u o : Nat} {row : OpRow} (h : opRow u o = some row) : o < 0x34 := by
  by_contra! ho
  have hnot {l : List Nat} (hl : ∀ k ∈ l, k < 0x34) : l.contains o = false := by
    simpa using fun hm => ho.not_gt (hl o hm)
  unfold opRow fpuRow simdRow tlbRow csrRow at h
  rw [hnot (by decide), hnot (by decide), hnot (by decide)] at h
  split_ifs at h <;> omega

/-- The tables of WellFormed.lean list no fields that the decoder's tables lack. -/
theorem decodeFields_of_opRow :
    ∀ u < 5, ∀ o < 0x34, ∀ row ∈ opRow u o, ∀ w ∈ row.wids, ∀ s ∈ row.sgns, ∀ r ∈ row.rnds,
      (decodeFields ⟨.ofNat 4 u, .ofNat 8 o, .ofNat 4 w, .ofNat 2 s, .ofNat 3 r, 0⟩).isOk = true := by
  decide

theorem decodeFields_of_wellFormed {f : Fields} (h : f.wellFormed = true) : ∃ i, decodeFields f = .ok i := by
  obtain ⟨hrsv, hu, row, hrow, hw, hs, hr⟩ := fields_of_wellFormed h
  have hok := decodeFields_of_opRow _ hu _ (op_lt_of_opRow hrow) row hrow _ hw _ hs _ hr
  simp only [BitVec.ofNat_toNat, BitVec.setWidth_eq, ← hrsv] at hok
  cases hd : decodeFields f with
  | ok i => exact ⟨i, rfl⟩
  | error e => rw [hd] at hok; cases hok

/-- Settles O2: the fields of a command are legal, and legal fields are in the decoder's tables. -/
theorem decodeAcceptsExactlyLegalFields : Obligations.DecodeAcceptsExactlyLegalFields := by
  refine fun w => ⟨fun ⟨i, h⟩ => ?_, decodeFields_of_wellFormed⟩
  obtain ⟨hlegal, -⟩ := fieldsLegal i
  exact Reads.decodeFields _ i h ▸ hlegal

/-! ### Single words -/

/-- Settles O3: each of the words is the word of its command. -/
theorem sampleWordsDecode : Obligations.SampleWordsDecode := by
  refine ⟨?_, ?_, ?_, ?_, ?_, ?_, ?_, ?_, ?_, ?_, ?_, ?_⟩ <;> exact (decodeIsInverseOfEncode _ _).mpr rfl

/-- Settles O9: the decoder refuses a word of no command, and the answer to a refused word is ILLEGAL_OP. -/
theorem illegalWordFaults : Obligations.IllegalWordFaults := by
  intro s hl hb hr hw
  cases hd : decode s.req.cmd with
  | ok i => exact absurd ((decodeIsInverseOfEncode _ i).mp hd) (hw i)
  | error e =>
    exact ⟨_, (step_answer hl hr hb).trans (answer_error s.popCycle e hd),
      ⟨rfl, rfl, rfl, rfl, rfl, rfl, rfl, rfl⟩, ⟨rfl, rfl, rfl, rfl⟩⟩

end Sys2Proof.Proofs.Encoding
end

section
/-! PROOF. FPCOMMIT as the statements say it: every FPU command commits its core (O23 to O25), and what each unit leaves
unchanged (O20). -/

namespace Sys2Proof.Proofs.Commit

open Sys2Proof.Machine Sys2Proof.Spec Sys2Proof.Proofs.Responses

/-! ### The fields of FCSR -/

/-- A field of FCSR apart from CAUSE stays when CAUSE is written. -/
theorem extract_withCause (f : BitVec 32) (e : ExcSet) (lo n : Nat) (hn : lo + n ≤ 24 ∨ 29 ≤ lo ∧ lo + n ≤ 32) :
    (withCause f e).extractLsb' lo n = f.extractLsb' lo n := by
  apply BitVec.eq_of_getLsbD_eq
  intro k hk
  rw [BitVec.getLsbD_extractLsb', BitVec.getLsbD_extractLsb', withCause_getLsbD _ _ _ (by omega), if_neg (by omega)]

/-- A field of FCSR apart from FLAGS stays when a set is joined to FLAGS. -/
theorem extract_withFlags (f : BitVec 32) (e : ExcSet) (lo n : Nat) (hn : lo + n ≤ 16 ∨ 21 ≤ lo ∧ lo + n ≤ 32) :
    (withFlags f e).extractLsb' lo n = f.extractLsb' lo n := by
  have hout (k : Nat) (hk : k < n) : ¬(16 ≤ lo + k ∧ lo + k < 21) := by omega
  apply BitVec.eq_of_getLsbD_eq
  intro k hk
  rw [BitVec.getLsbD_extractLsb', BitVec.getLsbD_extractLsb', withFlags_getLsbD _ _ _ (by omega),
    decide_eq_false (hout k hk), Bool.false_and, Bool.or_false]

/-- FPCOMMIT without a trap writes CAUSE and FLAGS alone (40_fp_arith.md R1010). -/
theorem fcsrBecomes_ok (s : State) (r : Word × ExcSet) :
    FcsrBecomes s (respondScalar { s with fcsr := withFlags (withCause s.fcsr r.2) r.2 } r.1) r.2
      (s.fcsr.extractLsb' 16 5 ||| r.2) where
  cause := (causeOf_withFlags _ _).trans (causeOf_withCause _ _)
  flags := (flagsOf_withFlags _ _).trans (congrArg (· ||| r.2) (flagsOf_withCause _ _))
  low := (extract_withFlags _ _ 0 16 (by decide)).trans (extract_withCause _ _ 0 16 (by decide))
  mid := (extract_withFlags _ _ 21 3 (by decide)).trans (extract_withCause _ _ 21 3 (by decide))
  high := (extract_withFlags _ _ 29 3 (by decide)).trans (extract_withCause _ _ 29 3 (by decide))
  asid := rfl
  tlb := rfl
  rr := rfl

/-- FPCOMMIT with a trap writes CAUSE alone (40_fp_arith.md R1010). -/
theorem fcsrBecomes_trap (s : State) (r : Word × ExcSet) :
    FcsrBecomes s (raise { s with fcsr := withCause s.fcsr r.2 } .fpe (r.2.setWidth 64)) r.2
      (s.fcsr.extractLsb' 16 5) where
  cause := causeOf_withCause _ _
  flags := flagsOf_withCause _ _
  low := extract_withCause _ _ 0 16 (by decide)
  mid := extract_withCause _ _ 21 3 (by decide)
  high := extract_withCause _ _ 29 3 (by decide)
  asid := rfl
  tlb := rfl
  rr := rfl

/-- A command whose meaning is FPCOMMIT of `r` commits `r`. -/
theorem commits_of_exec {i : Instr} {s : State} {r : Word × ExcSet} (h : exec i s = fpCommit s r) : Commits i s r :=
  ⟨fun he => ⟨_, h.trans (fpCommit_ok s r he), respond_answered s _ s.asid s.tlb s.rr _, fcsrBecomes_ok s r⟩,
    fun he => ⟨_, h.trans (fpCommit_trap s r he), respond_answered s _ s.asid s.tlb s.rr _, fcsrBecomes_trap s r⟩⟩

/-! ### The operands of a command -/

/-- The model's operand of a port is the one of 10_state.md R52. -/
theorem fpOperand_eq_operand (F : Fmt) (x : Word) : fpOperand F x = operand F x := by
  cases F
  · apply BitVec.eq_of_toNat_eq
    simp only [fpOperand, operand, BitVec.toNat_setWidth, BitVec.toNat_ofNat]
  · rfl

/-- The model's rounding mode is FCSR.RM (10_state.md R55). -/
theorem rmOf_eq_rm (s : State) : rmOf s.fcsr = rm s := by
  have hcode : (s.fcsr.extractLsb' 8 2).toNat = s.fcsr.toNat / 256 % 4 := by
    rw [BitVec.extractLsb'_toNat, Nat.shiftRight_eq_div_pow]
  have hall : ∀ c : BitVec 2, rmodeOfCode c = match c.toNat with | 0 => .RNE | 1 => .RZ | 2 => .RP | _ => .RM := by
    decide
  rw [rmOf, hall, hcode]
  rfl

/-- A command of a core on the operands of the ports, under FCSR.RM, commits the core. -/
theorem commits_round2 {i : Instr} {s : State} {F : Fmt} {core : Fmt → Tininess → RMode → Word → Word → Word × ExcSet}
    (h : exec i s = fpRound2 F core s) :
    Commits i s (core F s.cfg.tininess (rm s) (operand F s.req.xa) (operand F s.req.xb)) := by
  apply commits_of_exec
  rw [h, fpRound2, rmOf_eq_rm, fpOperand_eq_operand, fpOperand_eq_operand]

theorem commits_round3 {i : Instr} {s : State} {F : Fmt}
    {core : Fmt → Tininess → RMode → Word → Word → Word → Word × ExcSet} (h : exec i s = fpRound3 F core s) :
    Commits i s (core F s.cfg.tininess (rm s) (operand F s.req.xa) (operand F s.req.xb) (operand F s.req.xc)) := by
  apply commits_of_exec
  rw [h, fpRound3, rmOf_eq_rm, fpOperand_eq_operand, fpOperand_eq_operand, fpOperand_eq_operand]

theorem commits_minMax {i : Instr} {s : State} {F : Fmt} {pick : Fmt → Word → Word → Word}
    (h : exec i s = fpMinMax F pick s) :
    Commits i s (numCore F (pick F) (operand F s.req.xa) (operand F s.req.xb)) := by
  apply commits_of_exec
  rw [h, fpMinMax, fpOperand_eq_operand, fpOperand_eq_operand]

theorem commits_classify {i : Instr} {s : State} {F : Fmt} (h : exec i s = fpClassify F s) :
    Commits i s (fclassCore F (operand F s.req.xa)) := by
  apply commits_of_exec
  rw [h, fpClassify, fpOperand_eq_operand]

theorem commits_compare {i : Instr} {s : State} {F : Fmt} {rel : Rel} {signalling : Bool}
    (h : exec i s = fpCompare F rel signalling s) :
    Commits i s (fcmpCore F rel signalling (operand F s.req.xa) (operand F s.req.xb)) := by
  apply commits_of_exec
  rw [h, fpCompare, fpOperand_eq_operand, fpOperand_eq_operand]

theorem commits_convert {i : Instr} {s : State} {Fd Fs : Fmt} (h : exec i s = fpConvert Fd Fs s) :
    Commits i s (fcvtCore Fd Fs s.cfg.tininess (rm s) (operand Fs s.req.xa)) := by
  apply commits_of_exec
  rw [h, fpConvert, rmOf_eq_rm, fpOperand_eq_operand]

theorem commits_fromInt {i : Instr} {s : State} {F : Fmt} {iw : Nat} (h : exec i s = fpFromInt F iw s) :
    Commits i s (ffintCore F s.cfg.tininess (rm s) (s.req.xa.setWidth iw).toInt) := by
  apply commits_of_exec
  rw [h, fpFromInt, rmOf_eq_rm]
  rfl

/-! ### The integer of a conversion -/

/-- The integer of `ftint_core` is in the signed range of `iw` bits (41_fp_compare_convert.md R1204). -/
theorem ftintCore_range (F : Fmt) (iw : Nat) (m : RMode) (a : Word) :
    intMin iw ≤ (ftintCore F iw m a).1 ∧ (ftintCore F iw m a).1 ≤ intMax iw := by
  have hp : (0 : Int) < 2 ^ (iw - 1) := by positivity
  have hmin : intMin iw ≤ 0 := by unfold intMin; omega
  have hmax : 0 ≤ intMax iw := by unfold intMax; omega
  unfold ftintCore
  dsimp only
  split_ifs <;> dsimp only <;> omega

/-- A number in the signed range of `iw` bits is the same after its pattern is sign-extended. -/
theorem signExtend_bits {iw : Nat} {n : Int} (h0 : 0 < iw) (h1 : intMin iw ≤ n) (h2 : n ≤ intMax iw) :
    (bits iw n).signExtend 64 = BitVec.ofInt 64 n := by
  obtain ⟨k, rfl⟩ : ∃ k, iw = k + 1 := ⟨iw - 1, by omega⟩
  unfold intMin at h1
  unfold intMax at h2
  have hpow : (((2 : Nat) ^ (k + 1) : Nat) : Int) = 2 * 2 ^ k := by push_cast; ring
  have hn : (bits (k + 1) n).toInt = n := by
    rw [bits, BitVec.toInt_ofInt]
    rw [Nat.add_sub_cancel] at h1 h2
    apply Int.bmod_eq_of_le <;> rw [hpow] <;> omega
  rw [BitVec.signExtend, hn]

theorem commits_toInt {i : Instr} {s : State} {F : Fmt} {iw : Nat} {m : RMode} (hiw : 0 < iw)
    (h : exec i s = fpToInt F iw m s) :
    Commits i s
      (BitVec.ofInt 64 (ftintCore F iw m (operand F s.req.xa)).1, (ftintCore F iw m (operand F s.req.xa)).2) := by
  obtain ⟨h1, h2⟩ := ftintCore_range F iw m (operand F s.req.xa)
  apply commits_of_exec
  rw [h, fpToInt, fpOperand_eq_operand, ← signExtend_bits hiw h1 h2]

/-- Settles O23: each command is FPCOMMIT of its core. -/
theorem arithmeticCommandsCommitTheirCores : Obligations.ArithmeticCommandsCommitTheirCores := fun _ =>
  ⟨commits_round2 rfl, commits_round2 rfl, commits_round2 rfl, commits_round2 rfl, commits_round2 rfl,
    commits_round2 rfl, commits_round2 rfl, commits_round2 rfl, commits_round3 rfl, commits_round3 rfl,
    commits_minMax (pick := pickMin) rfl, commits_minMax (pick := pickMin) rfl,
    commits_minMax (pick := pickMax) rfl, commits_minMax (pick := pickMax) rfl,
    commits_minMax (pick := pickMinMag) rfl, commits_minMax (pick := pickMinMag) rfl,
    commits_minMax (pick := pickMaxMag) rfl, commits_minMax (pick := pickMaxMag) rfl,
    commits_classify rfl, commits_classify rfl⟩

/-- Settles O24: each command is FPCOMMIT of the comparison core. -/
theorem comparisonCommandsCommitTheirCores : Obligations.ComparisonCommandsCommitTheirCores := fun s => by
  refine ⟨?_, ?_, ?_, ?_, ?_, ?_, ?_, ?_, ?_, ?_, ?_, ?_, ?_, ?_, ?_, ?_, ?_, ?_, ?_, ?_, ?_, ?_, ?_, ?_⟩ <;>
    exact commits_compare rfl

/-- Settles O25: each command is FPCOMMIT of its core; the integer of a ftint command keeps its value when its pattern
is sign-extended. -/
theorem conversionCommandsCommitTheirCores : Obligations.ConversionCommandsCommitTheirCores := fun s => by
  have hwhole : s.req.xa.setWidth 64 = s.req.xa := BitVec.setWidth_eq _
  refine ⟨commits_convert rfl, commits_convert rfl, commits_fromInt rfl, ?_, commits_fromInt rfl, ?_, ?_⟩
  · exact hwhole ▸ commits_fromInt (i := .ffintSL) (s := s) rfl
  · exact hwhole ▸ commits_fromInt (i := .ffintDL) (s := s) rfl
  · rw [← rmOf_eq_rm]
    simp only [List.forall_mem_cons, List.not_mem_nil, false_implies, implies_true, and_true]
    refine ⟨?_, ?_, ?_, ?_, ?_, ?_, ?_, ?_, ?_, ?_, ?_, ?_, ?_, ?_, ?_, ?_, ?_, ?_, ?_, ?_⟩ <;>
      exact commits_toInt (by decide) rfl

/-! ### What each unit leaves unchanged -/

/-- The bits of FCSR outside CAUSE and FLAGS stay when the two are written. -/
theorem fcsrBecomes_masked {s t : State} {cause flags : ExcSet} (h : FcsrBecomes s t cause flags) :
    t.fcsr &&& (0xE0E0FFFF : BitVec 32) = s.fcsr &&& (0xE0E0FFFF : BitVec 32) := by
  have bit {lo n : Nat} (hf : t.fcsr.extractLsb' lo n = s.fcsr.extractLsb' lo n) (k : Nat) (h1 : lo ≤ k)
      (h2 : k < lo + n) : t.fcsr.getLsbD k = s.fcsr.getLsbD k := by
    have := congrArg (·.getLsbD (k - lo)) hf
    simpa [BitVec.getLsbD_extractLsb', h1, show k - lo < n by omega] using this
  have hmask : ∀ k < 32, 16 ≤ k ∧ k < 21 ∨ 24 ≤ k ∧ k < 29 → (0xE0E0FFFF : BitVec 32).getLsbD k = false := by decide
  apply BitVec.eq_of_getLsbD_eq
  intro k hk
  rw [BitVec.getLsbD_and, BitVec.getLsbD_and]
  by_cases hout : 16 ≤ k ∧ k < 21 ∨ 24 ≤ k ∧ k < 29
  · rw [hmask k hk hout, Bool.and_false, Bool.and_false]
  · congr 1
    rcases (by omega : k < 16 ∨ 21 ≤ k ∧ k < 24 ∨ 29 ≤ k) with hlow | hmid | hhigh
    · exact bit h.low k (Nat.zero_le k) (by omega)
    · exact bit h.mid k hmid.1 (by omega)
    · exact bit h.high k hhigh (by omega)

/-- An FPU command changes CAUSE and FLAGS alone and writes no vector (40_fp_arith.md R1012). -/
theorem exec_fpu_frame {i : Instr} {s t : State} (hu : Fpu i) (h : exec i s = .next t) :
    (∃ cause flags, FcsrBecomes s t cause flags) ∧ t.resp.vr = 0 := by
  obtain ⟨r, hr⟩ := exec_fpu i s hu
  rw [h] at hr
  by_cases he : r.2 &&& enablesOf s.fcsr = 0
  · cases hr.trans (fpCommit_ok s r he)
    exact ⟨⟨_, _, fcsrBecomes_ok s r⟩, rfl⟩
  · cases hr.trans (fpCommit_trap s r he)
    exact ⟨⟨_, _, fcsrBecomes_trap s r⟩, rfl⟩

/-- A SIMD command changes no state and writes no scalar (42_simd_lanewise.md R1400). -/
theorem exec_simd_frame {i : Instr} {s t : State} (hu : Simd i) (h : exec i s = .next t) :
    SameUnit s t ∧ t.resp.xr = 0 := by
  rcases exec_simd i s hu with ⟨v, hv⟩ | hv <;> cases h.symm.trans hv <;> exact ⟨⟨rfl, rfl, rfl, rfl⟩, rfl⟩

/-- A TLB command changes neither FCSR nor ASID and writes no vector (47_tlb.md R2012). -/
theorem exec_tlb_frame {i : Instr} {s t : State} (hu : Tlb i) (h : exec i s = .next t) :
    t.fcsr = s.fcsr ∧ t.asid = s.asid ∧ t.resp.vr = 0 := by
  have ha := exec_tlb i s hu
  rw [h] at ha
  cases ha <;> exact ⟨rfl, rfl, rfl⟩

/-- A CSR command changes neither the TLB nor RR and writes no vector (48_csr.md R2102). -/
theorem exec_csr_frame {i : Instr} {s t : State} (hu : Spec.Csr i) (h : exec i s = .next t) :
    t.tlb = s.tlb ∧ t.rr = s.rr ∧ t.resp.vr = 0 := by
  have ha := exec_csr i s hu
  rw [h] at ha
  cases ha <;> exact ⟨rfl, rfl, rfl⟩

/-- `csrrd` changes no state (48_csr.md R2100). -/
theorem csrrd_frame {s t : State} (h : exec .csrrd s = .next t) : SameUnit s t := by
  have ha := exec_csr .csrrd s (by unfold Spec.Csr; decide)
  rw [h] at ha
  cases ha with
  | ok f a x hrd =>
    obtain ⟨rfl, rfl⟩ := hrd (by decide)
    exact ⟨rfl, rfl, rfl, rfl⟩
  | fault e v he => exact ⟨rfl, rfl, rfl, rfl⟩

/-- A lookup changes no state (47_tlb.md R2001 to R2003). -/
theorem tlbLookup_frame {acc : Access} {s t : State} (h : tlbLookup acc s = .next t) : SameUnit s t := by
  unfold tlbLookup needAsid at h
  repeat' split at h
  all_goals
    cases h
    exact ⟨rfl, rfl, rfl, rfl⟩

/-- `tlbprobe` changes no state (47_tlb.md R2005). -/
theorem tlbprobe_frame {s t : State} (h : exec .tlbprobe s = .next t) : SameUnit s t := by
  change execTlbprobe s = .next t at h
  unfold execTlbprobe needKernel at h
  split at h
  all_goals
    cases h
    exact ⟨rfl, rfl, rfl, rfl⟩

/-- The commands that only read change no state. -/
theorem readers_frame {i : Instr} {s t : State}
    (hi : i ∈ ([.csrrd, .tlblookupR, .tlblookupW, .tlblookupX, .tlbprobe] : List Instr)) (h : exec i s = .next t) :
    SameUnit s t := by
  simp only [List.mem_cons, List.not_mem_nil, or_false] at hi
  rcases hi with rfl | rfl | rfl | rfl | rfl
  · exact csrrd_frame h
  · exact tlbLookup_frame (acc := .R) h
  · exact tlbLookup_frame (acc := .W) h
  · exact tlbLookup_frame (acc := .X) h
  · exact tlbprobe_frame h

/-- Settles O20, by the frame of each unit's commands. -/
theorem unitsTouchOnlyTheirState : Obligations.UnitsTouchOnlyTheirState := by
  intro i s t h
  refine ⟨fun hu => ?_, fun hu => exec_simd_frame hu h, fun hu => exec_tlb_frame hu h, fun hu => exec_csr_frame hu h,
    fun hi => readers_frame hi h⟩
  obtain ⟨⟨cause, flags, hb⟩, hvr⟩ := exec_fpu_frame hu h
  exact ⟨hb.asid, hb.tlb, hb.rr, fcsrBecomes_masked hb, hvr⟩

end Sys2Proof.Proofs.Commit
end

section
/-! PROOF. The model's readings of a floating-point pattern are those of the statements (40_fp_arith.md R1000 to R1003);
and from the readings alone, the classes of `fclass` (O35). -/

namespace Sys2Proof.Proofs.Patterns

open Sys2Proof.Machine Sys2Proof.Spec

variable {F : Fmt} {a b : Word}

/-! ### The fields of a pattern -/

theorem fpExp_eq (F : Fmt) (a : Word) : fpExp F a = expOf F a := by cases F <;> rfl

theorem fpFrac_eq (F : Fmt) (a : Word) : fpFrac F a = fracOf F a := by cases F <;> rfl

theorem expMax_eq (F : Fmt) : F.expMax = topExp F := by cases F <;> rfl

/-- The sign bit as a number. -/
theorem signOf_eq (F : Fmt) (a : Word) : signOf F a = (fpSign F a).toNat := by
  cases F <;> exact (Nat.toNat_testBit _ _).symm

/-- The quiet bit as a number. -/
theorem quietOf_eq (F : Fmt) (a : Word) : quietOf F a = (quietBit F a).toNat := by
  cases F <;> exact (Nat.toNat_testBit _ _).symm

theorem signOf_lt (F : Fmt) (a : Word) : signOf F a < 2 := signOf_eq F a ▸ Bool.toNat_lt _

theorem fpSign_iff : fpSign F a = true ↔ signOf F a = 1 := by rw [signOf_eq, Bool.toNat_eq_one]

/-- Two patterns have one sign in the model when they have one in the statements. -/
theorem fpSign_eq_iff : fpSign F a = fpSign F b ↔ signOf F a = signOf F b := by
  rw [signOf_eq, signOf_eq]
  cases fpSign F a <;> cases fpSign F b <;> decide

/-- The exclusive or of two signs, as a number. -/
theorem bne_fpSign_toNat (F : Fmt) (a b : Word) :
    (fpSign F a != fpSign F b).toNat = (signOf F a + signOf F b) % 2 := by
  rw [signOf_eq, signOf_eq]
  cases fpSign F a <;> cases fpSign F b <;> rfl

/-- A sign is the exclusive or of two others in the model when it is one in the statements. -/
theorem fpSign_eq_bne_iff {c : Word} :
    fpSign F c = (fpSign F a != fpSign F b) ↔ signOf F c = (signOf F a + signOf F b) % 2 := by
  rw [← bne_fpSign_toNat, signOf_eq]
  cases fpSign F c <;> cases fpSign F a <;> cases fpSign F b <;> decide

theorem topExp_pos (F : Fmt) : 0 < topExp F := by cases F <;> decide

/-! ### The kinds of patterns -/

theorem isNaN_iff : isNaN F a = true ↔ IsNan F a := by
  simp [isNaN, IsNan, fpExp_eq, fpFrac_eq, expMax_eq]

theorem isInf_iff : isInf F a = true ↔ IsInfinite F a := by
  simp [isInf, IsInfinite, fpExp_eq, fpFrac_eq, expMax_eq]

theorem isZero_iff : isZero F a = true ↔ IsZero F a := by
  simp [isZero, IsZero, fpExp_eq, fpFrac_eq]

theorem isSNaN_iff : isSNaN F a = true ↔ IsSignalling F a := by
  rw [IsSignalling, quietOf_eq, Bool.toNat_eq_zero]
  simp [isSNaN, isNaN_iff]

/-- A quiet NaN is a NaN that is not signalling (40_fp_arith.md R1002). -/
theorem isQNaN_iff : isQNaN F a = true ↔ IsNan F a ∧ ¬IsSignalling F a := by
  rw [IsSignalling, quietOf_eq, Bool.toNat_eq_zero]
  simp +contextual [isQNaN, isNaN_iff]

theorem not_isNan_of_isInfinite (h : IsInfinite F a) : ¬IsNan F a := fun hn => hn.2 h.2

theorem not_isZero_of_isInfinite (h : IsInfinite F a) : ¬IsZero F a :=
  fun hz => (topExp_pos F).ne' (h.1.symm.trans hz.1)

theorem not_isNan_of_isZero (h : IsZero F a) : ¬IsNan F a := fun hn => hn.2 h.2

theorem not_isInfinite_of_isZero (h : IsZero F a) : ¬IsInfinite F a := fun hi => not_isZero_of_isInfinite hi h

theorem not_isNan_of_isFinite (h : IsFinite F a) : ¬IsNan F a := fun hn => h.2 hn.1

theorem not_isInfinite_of_isFinite (h : IsFinite F a) : ¬IsInfinite F a := fun hi => h.2 hi.1

/-- A number that is no infinity is finite (40_fp_arith.md R1001). -/
theorem isFinite_of_isNumber (h : IsNumber F a) (hi : ¬IsInfinite F a) : IsFinite F a := by
  refine ⟨h.1, fun he => ?_⟩
  by_cases hf : fracOf F a = 0
  · exact hi ⟨he, hf⟩
  · exact h.2 ⟨he, hf⟩

/-! ### Zeros, infinities and the default NaN -/

theorem fpZero_eq (F : Fmt) (s : Bool) : fpZero F s = zeroOf F s.toNat := by cases F <;> cases s <;> rfl

theorem fpInf_eq (F : Fmt) (s : Bool) : fpInf F s = infOf F s.toNat := by cases F <;> cases s <;> rfl

theorem defaultNaN_eq (F : Fmt) : defaultNaN F = nan F := by cases F <;> rfl

/-- `quiet_F` sets the quiet bit and keeps the rest (40_fp_arith.md R1008). -/
theorem fpQuiet_eq (F : Fmt) (a : Word) :
    fpQuiet F a = a ||| (match F with | .S => (0x400000 : Word) | .D => 0x8000000000000) := by
  cases F <;> rfl

/-! ### `fclass` -/

/-- The class of a pattern by its fields (40_fp_arith.md R1019). -/
theorem fclassIndex_eq (F : Fmt) (a : Word) : fclassIndex F a =
    if expOf F a = topExp F then
      if fracOf F a = 0 then (if signOf F a = 1 then 0 else 7) else (if quietOf F a = 0 then 9 else 8)
    else if expOf F a = 0 then
      if fracOf F a = 0 then (if signOf F a = 1 then 3 else 4) else (if signOf F a = 1 then 2 else 5)
    else (if signOf F a = 1 then 1 else 6) := by
  have htop := topExp_pos F
  have hsub : isSub F a = true ↔ expOf F a = 0 ∧ fracOf F a ≠ 0 := by simp [isSub, fpExp_eq, fpFrac_eq]
  unfold fclassIndex
  simp only [isSNaN_iff, isQNaN_iff, isInf_iff, isZero_iff, hsub, fpSign_iff, IsSignalling, IsNan, IsInfinite, IsZero]
  split_ifs <;> omega

theorem fclassIndex_lt (F : Fmt) (a : Word) : fclassIndex F a < 10 := by
  rw [fclassIndex_eq]
  split_ifs <;> decide

/-- Settles O35: the bit is the class by the fields, and the fields exclude each other. -/
theorem classificationPartitionsThePatterns : Obligations.ClassificationPartitionsThePatterns := by
  intro F a
  have hbit : ∀ k < 10, ((1 : Word) <<< k).toNat = 2 ^ k := by decide
  refine ⟨rfl, fclassIndex F a, fclassIndex_lt F a, hbit _ (fclassIndex_lt F a), ?_⟩
  have htop := topExp_pos F
  have hs := signOf_lt F a
  have hq : quietOf F a < 2 := quietOf_eq F a ▸ Bool.toNat_lt _
  have hk := fclassIndex_eq F a
  generalize fclassIndex F a = k at hk ⊢
  unfold IsInfinite IsNan
  split_ifs at hk <;> refine ⟨?_, ?_, ?_, ?_, ?_, ?_, ?_, ?_, ?_, ?_⟩ <;> omega

end Sys2Proof.Proofs.Patterns
end

section
/-! PROOF. The operands that are no finite numbers: NaNs (O32), infinities and divisions by zero (O33). -/

namespace Sys2Proof.Proofs.Special

open Sys2Proof.Machine Sys2Proof.Spec Sys2Proof.Proofs.Patterns

variable {F : Fmt} {t : Tininess} {m : RMode} {a b c n : Word}

/-! ### NaN operands -/

theorem addCore_of_nan (h : IsNan F a ∨ IsNan F b) : addCore F t m a b = propagate F [a, b] := by
  simp only [← isNaN_iff, ← Bool.or_eq_true] at h
  rw [addCore, if_pos h]

theorem subCore_of_nan (h : IsNan F a ∨ IsNan F b) : subCore F t m a b = propagate F [a, b] := by
  simp only [← isNaN_iff, ← Bool.or_eq_true] at h
  rw [subCore, if_pos h]

theorem mulCore_of_nan (h : IsNan F a ∨ IsNan F b) : mulCore F t m a b = propagate F [a, b] := by
  simp only [← isNaN_iff, ← Bool.or_eq_true] at h
  rw [mulCore, if_pos h]

theorem divCore_of_nan (h : IsNan F a ∨ IsNan F b) : divCore F t m a b = propagate F [a, b] := by
  simp only [← isNaN_iff, ← Bool.or_eq_true] at h
  rw [divCore, if_pos h]

theorem fmaCore_of_nan (h : (IsNan F a ∨ IsNan F b) ∨ IsNan F c) : fmaCore F t m a b c =
    ((propagate F [a, b, c]).1, (propagate F [a, b, c]).2 |||
      excIf (isInf F a && isZero F b || isZero F a && isInf F b) excV) := by
  simp only [← isNaN_iff, ← Bool.or_eq_true] at h
  rw [fmaCore, if_pos h]

/-- With a signalling NaN the first one results, and V is raised (40_fp_arith.md R1009). -/
theorem propagate_signalling {os : List Word} (h : os.find? (isSNaN F) = some n) :
    propagate F os = (fpQuiet F n, 0b10000) := by
  rw [propagate, h]
  rfl

/-- Without one the first NaN results, and nothing is raised (40_fp_arith.md R1009). -/
theorem propagate_quiet {os : List Word} (hs : os.find? (isSNaN F) = none) (hq : os.find? (isQNaN F) = some n) :
    propagate F os = (fpQuiet F n, 0) := by
  rw [propagate, hs, hq, Option.getD_some]
  rfl

/-- The NaN that results of two operands (40_fp_arith.md R1009). -/
theorem propagate_two (h : n = a ∧ IsSignalling F a ∨ n = b ∧ IsSignalling F b ∧ ¬IsSignalling F a ∨
    n = a ∧ IsNan F a ∧ ¬IsSignalling F a ∧ ¬IsSignalling F b ∨ n = b ∧ IsNan F b ∧ ¬IsSignalling F b ∧ ¬IsNan F a) :
    (IsNan F a ∨ IsNan F b) ∧ propagate F [a, b] =
      (fpQuiet F n, open Classical in if IsSignalling F a ∨ IsSignalling F b then 0b10000 else 0) := by
  rcases h with ⟨rfl, ha⟩ | ⟨rfl, hb, ha⟩ | ⟨rfl, hn, ha, hb⟩ | ⟨rfl, hn, hb, ha⟩
  · refine ⟨.inl ha.1, ?_⟩
    rw [propagate_signalling (n := n) (by simp [isSNaN_iff, ha]), if_pos (.inl ha)]
  · refine ⟨.inr hb.1, ?_⟩
    rw [propagate_signalling (n := n) (by simp [isSNaN_iff, ha, hb]), if_pos (.inr hb)]
  · refine ⟨.inl hn, ?_⟩
    rw [propagate_quiet (n := n) (by simp [isSNaN_iff, ha, hb]) (by simp [isQNaN_iff, hn, ha]), if_neg (by tauto)]
  · have hsa : ¬IsSignalling F a := fun hs => ha hs.1
    refine ⟨.inr hn, ?_⟩
    rw [propagate_quiet (n := n) (by simp [isSNaN_iff, hsa, hb]) (by simp [isQNaN_iff, hn, ha, hb]), if_neg (by tauto)]

/-- The NaN that results of three operands (40_fp_arith.md R1009). -/
theorem propagate_three (h : n = a ∧ IsSignalling F a ∨ n = b ∧ IsSignalling F b ∧ ¬IsSignalling F a ∨
    n = c ∧ IsSignalling F c ∧ ¬IsSignalling F a ∧ ¬IsSignalling F b ∨
    ¬IsSignalling F a ∧ ¬IsSignalling F b ∧ ¬IsSignalling F c ∧
      (n = a ∧ IsNan F a ∨ n = b ∧ IsNan F b ∧ ¬IsNan F a ∨ n = c ∧ IsNan F c ∧ ¬IsNan F a ∧ ¬IsNan F b)) :
    ((IsNan F a ∨ IsNan F b) ∨ IsNan F c) ∧ propagate F [a, b, c] = (fpQuiet F n,
      open Classical in if IsSignalling F a ∨ IsSignalling F b ∨ IsSignalling F c then 0b10000 else 0) := by
  rcases h with ⟨rfl, ha⟩ | ⟨rfl, hb, ha⟩ | ⟨rfl, hc, ha, hb⟩ | ⟨ha, hb, hc, hn⟩
  · refine ⟨.inl (.inl ha.1), ?_⟩
    rw [propagate_signalling (n := n) (by simp [isSNaN_iff, ha]), if_pos (.inl ha)]
  · refine ⟨.inl (.inr hb.1), ?_⟩
    rw [propagate_signalling (n := n) (by simp [isSNaN_iff, ha, hb]), if_pos (.inr (.inl hb))]
  · refine ⟨.inr hc.1, ?_⟩
    rw [propagate_signalling (n := n) (by simp [isSNaN_iff, ha, hb, hc]), if_pos (.inr (.inr hc))]
  · have hq : (IsNan F a ∨ IsNan F b) ∨ IsNan F c := by tauto
    have hfind : [a, b, c].find? (isQNaN F) = some n := by
      rcases hn with ⟨rfl, hn⟩ | ⟨rfl, hn, hna⟩ | ⟨rfl, hn, hna, hnb⟩
      · simp [isQNaN_iff, hn, ha]
      · simp [isQNaN_iff, hn, hna, hb]
      · simp [isQNaN_iff, hn, hna, hnb, hc]
    refine ⟨hq, ?_⟩
    rw [propagate_quiet (by simp [isSNaN_iff, ha, hb, hc]) hfind, if_neg (by tauto)]

/-- A set raised under either of two conditions. -/
theorem ite_or_ite {p q r : Prop} {_ : Decidable p} {_ : Decidable q} {_ : Decidable r} (h : r ↔ p ∨ q) (e : ExcSet) :
    ((if p then e else 0) ||| if q then e else 0) = if r then e else 0 := by
  by_cases hp : p <;> by_cases hq : q <;> simp [h, hp, hq]

/-- Settles O32: with a NaN operand a core is `propagate`, and the fused form adds V for an infinity times a zero. -/
theorem nanOperandsPropagate : Obligations.NanOperandsPropagate := by
  refine fun F t m a b c n => ⟨fun core hcore h => ?_, fun h => ?_⟩
  · obtain ⟨hnan, hp⟩ := propagate_two h
    have hcore : core a b = propagate F [a, b] := by
      simp only [List.mem_cons, List.not_mem_nil, or_false] at hcore
      rcases hcore with rfl | rfl | rfl | rfl
      · exact addCore_of_nan hnan
      · exact subCore_of_nan hnan
      · exact mulCore_of_nan hnan
      · exact divCore_of_nan hnan
    exact (hcore.trans hp).trans (Prod.ext (fpQuiet_eq F n) rfl)
  · obtain ⟨hnan, hp⟩ := propagate_three h
    rw [fmaCore_of_nan hnan, hp]
    refine Prod.ext (fpQuiet_eq F n) (ite_or_ite ?_ _)
    simp only [Bool.or_eq_true, Bool.and_eq_true, isInf_iff, isZero_iff, IsZero, or_assoc, and_assoc]

/-! ### Negation -/

theorem fpNeg_eq (F : Fmt) (a : Word) : fpNeg F a = a ^^^ signMask F := by cases F <;> rfl

/-- A field of a pattern that the sign bit is not in stays when the sign is inverted. -/
theorem xor_field (x y : Word) (k n : Nat) (h : y.extractLsb' k n = 0#n) :
    (x ^^^ y).toNat / 2 ^ k % 2 ^ n = x.toNat / 2 ^ k % 2 ^ n := by
  have hx := congrArg BitVec.toNat (BitVec.extractLsb'_xor (x := x) (y := y) (start := k) (len := n))
  rw [h, BitVec.xor_zero] at hx
  simpa only [BitVec.extractLsb'_toNat, Nat.shiftRight_eq_div_pow] using hx

theorem expOf_fpNeg (F : Fmt) (a : Word) : expOf F (fpNeg F a) = expOf F a := by
  cases F
  · exact xor_field a 0x80000000 23 8 (by decide)
  · exact xor_field a 0x8000000000000000 52 11 (by decide)

theorem fracOf_fpNeg (F : Fmt) (a : Word) : fracOf F (fpNeg F a) = fracOf F a := by
  cases F
  · simpa [fracOf, fpNeg_eq, signMask] using xor_field a 0x80000000 0 23 (by decide)
  · simpa [fracOf, fpNeg_eq, signMask] using xor_field a 0x8000000000000000 0 52 (by decide)

theorem fpSign_fpNeg (F : Fmt) (a : Word) : fpSign F (fpNeg F a) = !fpSign F a := by
  cases F <;> simp [fpSign, fpNeg, Fmt.width]

theorem isPattern_fpNeg (h : IsPattern F a) : IsPattern F (fpNeg F a) := by
  cases F
  · rw [IsPattern, fpNeg_eq, BitVec.toNat_xor]
    exact Nat.xor_lt_two_pow h (by decide)
  · trivial

theorem isNan_fpNeg : IsNan F (fpNeg F a) ↔ IsNan F a := by rw [IsNan, IsNan, expOf_fpNeg, fracOf_fpNeg]

theorem isInfinite_fpNeg : IsInfinite F (fpNeg F a) ↔ IsInfinite F a := by
  rw [IsInfinite, IsInfinite, expOf_fpNeg, fracOf_fpNeg]

theorem isFinite_fpNeg (h : IsFinite F a) : IsFinite F (fpNeg F a) := ⟨isPattern_fpNeg h.1, expOf_fpNeg F a ▸ h.2⟩

/-- A subtraction of numbers is an addition (40_fp_arith.md R1014). -/
theorem subCore_of_not_nan (ha : ¬IsNan F a) (hb : ¬IsNan F b) : subCore F t m a b = addCore F t m a (fpNeg F b) := by
  simp [subCore, isNaN_iff, ha, hb]

/-! ### Infinite operands and zero divisors -/

theorem addCore_inf_opposite (ha : IsInfinite F a) (hb : IsInfinite F b) (hs : fpSign F a ≠ fpSign F b) :
    addCore F t m a b = (nan F, 0b10000) := by
  have hna := not_isNan_of_isInfinite ha
  have hnb := not_isNan_of_isInfinite hb
  simp [addCore, isNaN_iff, isInf_iff, hna, hnb, ha, hb, hs, defaultNaN_eq, excV]

theorem addCore_inf_left (ha : IsInfinite F a) (hb : ¬IsNan F b) (hs : IsInfinite F b → fpSign F a = fpSign F b) :
    addCore F t m a b = (a, 0) := by
  have hna := not_isNan_of_isInfinite ha
  simp +contextual [addCore, isNaN_iff, isInf_iff, hna, hb, ha, hs, excNone]

theorem addCore_inf_right (ha : IsFinite F a) (hb : IsInfinite F b) : addCore F t m a b = (b, 0) := by
  have hna := not_isNan_of_isFinite ha
  have hia := not_isInfinite_of_isFinite ha
  have hnb := not_isNan_of_isInfinite hb
  simp [addCore, isNaN_iff, isInf_iff, hna, hnb, hia, hb, excNone]

theorem mulCore_inf_zero (ha : IsInfinite F a) (hb : IsZero F b) :
    mulCore F t m a b = (nan F, 0b10000) ∧ mulCore F t m b a = (nan F, 0b10000) := by
  have hna := not_isNan_of_isInfinite ha
  have hnb := not_isNan_of_isZero hb
  constructor <;> simp [mulCore, isNaN_iff, isInf_iff, isZero_iff, hna, hnb, ha, hb, defaultNaN_eq, excV]

theorem mulCore_inf_nonzero (ha : IsInfinite F a) (hb : ¬IsNan F b) (hz : ¬IsZero F b) :
    mulCore F t m a b = (infOf F ((signOf F a + signOf F b) % 2), 0) ∧
      mulCore F t m b a = (infOf F ((signOf F a + signOf F b) % 2), 0) := by
  have hna := not_isNan_of_isInfinite ha
  have hza := not_isZero_of_isInfinite ha
  constructor
  · simp [mulCore, isNaN_iff, isInf_iff, isZero_iff, hna, hb, hz, hza, ha, fpInf_eq, bne_fpSign_toNat, excNone]
  · simp [mulCore, isNaN_iff, isInf_iff, isZero_iff, hna, hb, hz, hza, ha, fpInf_eq, bne_fpSign_toNat, excNone,
      Nat.add_comm]

/-- The invalid divisions (40_fp_arith.md R1016). -/
theorem divCore_invalid (h : IsInfinite F a ∧ IsInfinite F b ∨ IsZero F a ∧ IsZero F b) :
    divCore F t m a b = (nan F, 0b10000) := by
  have hna : ¬IsNan F a := h.elim (fun h => not_isNan_of_isInfinite h.1) fun h => not_isNan_of_isZero h.1
  have hnb : ¬IsNan F b := h.elim (fun h => not_isNan_of_isInfinite h.2) fun h => not_isNan_of_isZero h.2
  simp [divCore, isNaN_iff, isInf_iff, isZero_iff, hna, hnb, h, defaultNaN_eq, excV]

theorem divCore_by_zero (ha : IsFinite F a) (hz : ¬IsZero F a) (hb : IsZero F b) :
    divCore F t m a b = (infOf F ((signOf F a + signOf F b) % 2), 0b01000) := by
  have hna := not_isNan_of_isFinite ha
  have hia := not_isInfinite_of_isFinite ha
  have hnb := not_isNan_of_isZero hb
  have hib := not_isInfinite_of_isZero hb
  simp [divCore, isNaN_iff, isInf_iff, isZero_iff, hna, hia, hnb, hib, hz, hb, fpInf_eq, bne_fpSign_toNat, excZ]

theorem divCore_inf_left (ha : IsInfinite F a) (hb : IsFinite F b) :
    divCore F t m a b = (infOf F ((signOf F a + signOf F b) % 2), 0) := by
  have hna := not_isNan_of_isInfinite ha
  have hza := not_isZero_of_isInfinite ha
  have hnb := not_isNan_of_isFinite hb
  have hib := not_isInfinite_of_isFinite hb
  simp [divCore, isNaN_iff, isInf_iff, isZero_iff, hna, hza, hnb, hib, ha, fpInf_eq, bne_fpSign_toNat, excNone]

theorem divCore_inf_right (ha : IsFinite F a) (hb : IsInfinite F b) :
    divCore F t m a b = (zeroOf F ((signOf F a + signOf F b) % 2), 0) := by
  have hna := not_isNan_of_isFinite ha
  have hia := not_isInfinite_of_isFinite ha
  have hnb := not_isNan_of_isInfinite hb
  have hzb := not_isZero_of_isInfinite hb
  simp [divCore, isNaN_iff, isInf_iff, isZero_iff, hna, hia, hnb, hzb, hb, fpZero_eq, bne_fpSign_toNat, excNone]

theorem fmaCore_inf_zero (h : IsInfinite F a ∧ IsZero F b ∨ IsZero F a ∧ IsInfinite F b) (hc : ¬IsNan F c) :
    fmaCore F t m a b c = (nan F, 0b10000) := by
  have hna : ¬IsNan F a := h.elim (fun h => not_isNan_of_isInfinite h.1) fun h => not_isNan_of_isZero h.1
  have hnb : ¬IsNan F b := h.elim (fun h => not_isNan_of_isZero h.2) fun h => not_isNan_of_isInfinite h.2
  simp [fmaCore, isNaN_iff, isInf_iff, isZero_iff, hna, hnb, hc, h, defaultNaN_eq, excV]

section
variable (h : IsInfinite F a ∧ ¬IsNan F b ∧ ¬IsZero F b ∨ IsInfinite F b ∧ ¬IsNan F a ∧ ¬IsZero F a)
include h

/-- The operands of an infinite product. -/
theorem infinite_product : ¬IsNan F a ∧ ¬IsNan F b ∧ ¬IsZero F a ∧ ¬IsZero F b ∧ (IsInfinite F a ∨ IsInfinite F b) := by
  rcases h with ⟨ha, hb, hz⟩ | ⟨hb, ha, hz⟩
  · exact ⟨not_isNan_of_isInfinite ha, hb, not_isZero_of_isInfinite ha, hz, .inl ha⟩
  · exact ⟨ha, not_isNan_of_isInfinite hb, hz, not_isZero_of_isInfinite hb, .inr hb⟩

theorem fmaCore_inf_product_opposite (hc : IsInfinite F c) (hs : signOf F c ≠ (signOf F a + signOf F b) % 2) :
    fmaCore F t m a b c = (nan F, 0b10000) := by
  obtain ⟨hna, hnb, hza, hzb, hi⟩ := infinite_product h
  have hnc := not_isNan_of_isInfinite hc
  rw [ne_eq, ← fpSign_eq_bne_iff] at hs
  simp [fmaCore, isNaN_iff, isInf_iff, isZero_iff, hna, hnb, hza, hzb, hi, hnc, hc, hs, defaultNaN_eq, excV]

theorem fmaCore_inf_product (hc : ¬IsNan F c) (hs : IsInfinite F c → signOf F c = (signOf F a + signOf F b) % 2) :
    fmaCore F t m a b c = (infOf F ((signOf F a + signOf F b) % 2), 0) := by
  obtain ⟨hna, hnb, hza, hzb, hi⟩ := infinite_product h
  rw [← fpSign_eq_bne_iff] at hs
  simp +contextual [fmaCore, isNaN_iff, isInf_iff, isZero_iff, hna, hnb, hza, hzb, hi, hc, hs, fpInf_eq,
    bne_fpSign_toNat, excNone]

end

theorem fmaCore_inf_addend (ha : IsFinite F a) (hb : IsFinite F b) (hc : IsInfinite F c) :
    fmaCore F t m a b c = (c, 0) := by
  have hna := not_isNan_of_isFinite ha
  have hia := not_isInfinite_of_isFinite ha
  have hnb := not_isNan_of_isFinite hb
  have hib := not_isInfinite_of_isFinite hb
  have hnc := not_isNan_of_isInfinite hc
  simp [fmaCore, isNaN_iff, isInf_iff, isZero_iff, hna, hia, hnb, hib, hnc, hc, excNone]

/-- Settles O33, one case of the rules R1013 to R1017 at a time. -/
theorem infinitiesAndDivisionByZero : Obligations.InfinitiesAndDivisionByZero := by
  intro F t m a b c
  refine ⟨fun ha hb hs => ?_, fun ha hb hs => ?_, fun ha hb => ?_, mulCore_inf_zero, mulCore_inf_nonzero,
    fun ha hb => divCore_invalid (.inl ⟨ha, hb⟩), fun ha hb => divCore_invalid (.inr ⟨ha, hb⟩), divCore_by_zero,
    fun ha hb => ⟨divCore_inf_left ha hb, ?_⟩, fmaCore_inf_zero, fun h => ⟨fmaCore_inf_product_opposite h,
      fun hc hs => fmaCore_inf_product h (not_isNan_of_isInfinite hc) fun _ => hs,
      fun hc => fmaCore_inf_product h (not_isNan_of_isFinite hc) fun hi => absurd hi (not_isInfinite_of_isFinite hc)⟩,
    fmaCore_inf_addend⟩
  · rw [ne_eq, ← fpSign_eq_iff] at hs
    have hnb := not_isNan_of_isInfinite hb
    rw [subCore_of_not_nan (not_isNan_of_isInfinite ha) hnb]
    refine ⟨addCore_inf_opposite ha hb hs, addCore_inf_left ha (mt isNan_fpNeg.mp hnb) fun _ => ?_⟩
    rw [fpSign_fpNeg]
    exact Bool.eq_not_of_ne hs
  · rw [← fpSign_eq_iff] at hs
    have hnb := not_isNan_of_isInfinite hb
    rw [subCore_of_not_nan (not_isNan_of_isInfinite ha) hnb]
    refine ⟨addCore_inf_left ha hnb fun _ => hs, addCore_inf_opposite ha (isInfinite_fpNeg.mpr hb) ?_⟩
    rw [fpSign_fpNeg, hs]
    exact (Bool.not_ne_self _).symm
  · have hna := not_isNan_of_isInfinite ha
    have hnb := not_isNan_of_isFinite hb
    have hib := not_isInfinite_of_isFinite hb
    rw [subCore_of_not_nan hna hnb, subCore_of_not_nan hnb hna, ← fpNeg_eq]
    exact ⟨addCore_inf_left ha hnb fun hi => absurd hi hib, addCore_inf_right hb ha,
      addCore_inf_left ha (mt isNan_fpNeg.mp hnb) fun hi => absurd (isInfinite_fpNeg.mp hi) hib,
      addCore_inf_right hb (isInfinite_fpNeg.mpr ha)⟩
  · rw [Nat.add_comm]
    exact divCore_inf_right hb ha

end Sys2Proof.Proofs.Special
end

section
/-! PROOF. The value of a pattern: the model's exact fraction stands for the rational of the statements, its comparisons
are those of rationals, and so minimum and maximum pick as the statements say (O34). -/

namespace Sys2Proof.Proofs.Values

open Sys2Proof.Machine Sys2Proof.Spec Sys2Proof.Proofs.Patterns Sys2Proof.Proofs.Special

variable {F : Fmt} {a b : Word}

/-! ### The value of a pattern -/

theorem fpSignificand_eq (F : Fmt) (a : Word) : fpSignificand F a = significand F a := by cases F <;> rfl

theorem fpScale_eq (F : Fmt) (a : Word) : fpScale F a = ulpExp F a := by
  cases F <;> simp only [fpScale, ulpExp, fpExp_eq, Fmt.emin, Fmt.bias, Fmt.prec] <;> split_ifs <;> omega

/-- The exact fraction of a pattern stands for its value (40_fp_arith.md R1001). -/
theorem fpVal_real (F : Fmt) (a : Word) : (fpVal F a).real = real F a := by
  rw [fpVal, scaled_real, fpScale_eq, fpSignificand_eq, real, signOf_eq]
  cases fpSign F a <;> simp

theorem abs_real_eq (F : Fmt) (a : Word) : |real F a| = significand F a * (2 : ℚ) ^ ulpExp F a := by
  rw [real, abs_mul, abs_mul, abs_neg_one_pow, one_mul, Nat.abs_cast, abs_of_pos (zpow_pos two_pos _)]

/-- A value is its magnitude with the sign of the pattern. -/
theorem real_eq_sign_mul_abs (F : Fmt) (a : Word) : real F a = (-1) ^ signOf F a * |real F a| := by
  rw [abs_real_eq, real, mul_assoc]

theorem real_of_sign_zero (h : signOf F a = 0) : real F a = |real F a| := by
  simpa [h] using real_eq_sign_mul_abs F a

theorem real_of_sign_one (h : signOf F a = 1) : real F a = -|real F a| := by
  simpa [h] using real_eq_sign_mul_abs F a

/-- Only the zeros have the value zero (40_fp_arith.md R1001). -/
theorem real_eq_zero_iff : real F a = 0 ↔ IsZero F a := by
  have hsig : significand F a = 0 ↔ IsZero F a := by
    cases F <;> simp only [significand, IsZero] <;> split_ifs <;> simp_all
  rw [← abs_eq_zero, abs_real_eq, mul_eq_zero, or_iff_left (zpow_pos two_pos _).ne', Nat.cast_eq_zero, hsig]

theorem real_fpNeg (F : Fmt) (a : Word) : real F (fpNeg F a) = -real F a := by
  have hsig : significand F (fpNeg F a) = significand F a := by
    cases F <;> simp only [significand, expOf_fpNeg, fracOf_fpNeg]
  have hulp : ulpExp F (fpNeg F a) = ulpExp F a := by
    cases F <;> simp only [ulpExp, expOf_fpNeg]
  rw [real, real, hsig, hulp, signOf_eq, signOf_eq, fpSign_fpNeg]
  cases fpSign F a <;> simp

/-- Two patterns of different signs with one value are the two zeros. -/
theorem isZero_of_real_eq (h : real F a = real F b) (hs : signOf F a ≠ signOf F b) : IsZero F a ∧ IsZero F b := by
  have hzero : real F a = 0 := by
    have hsa := signOf_lt F a
    have hsb := signOf_lt F b
    have h0a := abs_nonneg (real F a)
    have h0b := abs_nonneg (real F b)
    rcases (by omega : signOf F a = 0 ∧ signOf F b = 1 ∨ signOf F a = 1 ∧ signOf F b = 0) with ⟨ha, hb⟩ | ⟨ha, hb⟩
    · have h1 := real_of_sign_zero ha
      have h2 := real_of_sign_one hb
      linarith
    · have h1 := real_of_sign_one ha
      have h2 := real_of_sign_zero hb
      linarith
  exact ⟨real_eq_zero_iff.mp hzero, real_eq_zero_iff.mp (h ▸ hzero)⟩

/-! ### Comparisons of extended reals -/

theorem fpVal_lt_iff : (fpVal F a).lt (fpVal F b) = true ↔ real F a < real F b := by
  rw [lt_real _ _ (fpVal_den_pos F a) (fpVal_den_pos F b), fpVal_real, fpVal_real]

theorem fpVal_eq_iff : (fpVal F a).eq (fpVal F b) = true ↔ ¬real F a < real F b ∧ ¬real F b < real F a := by
  rw [eq_real _ _ (fpVal_den_pos F a) (fpVal_den_pos F b), fpVal_real, fpVal_real, le_antisymm_iff, not_lt, not_lt,
    and_comm]

/-- The magnitude of an exact fraction is that of its real. -/
theorem abs_real (x : Exact) : x.abs.real = |x.real| := by
  rw [Exact.abs, Exact.real, Exact.real, abs_div, Nat.abs_cast, Int.cast_natCast, Nat.cast_natAbs, Int.cast_abs]

theorem fpVal_abs_lt_iff : (fpVal F a).abs.lt (fpVal F b).abs = true ↔ |real F a| < |real F b| := by
  rw [lt_real (fpVal F a).abs (fpVal F b).abs (fpVal_den_pos F a) (fpVal_den_pos F b), abs_real, abs_real, fpVal_real,
    fpVal_real]

theorem fpVal_abs_eq_iff :
    (fpVal F a).abs.eq (fpVal F b).abs = true ↔ ¬|real F a| < |real F b| ∧ ¬|real F b| < |real F a| := by
  rw [eq_real (fpVal F a).abs (fpVal F b).abs (fpVal_den_pos F a) (fpVal_den_pos F b), abs_real, abs_real, fpVal_real,
    fpVal_real, le_antisymm_iff, not_lt, not_lt, and_comm]

/-- The model's order of two patterns that are no NaN (40_fp_arith.md R1003). -/
theorem fpXVal_lt_iff : (fpXVal F a).lt (fpXVal F b) = true ↔ XLt F a b := by
  have ha : signOf F a = 0 ↔ fpSign F a = false := by rw [signOf_eq, Bool.toNat_eq_zero]
  unfold fpXVal XLt
  by_cases hia : IsInfinite F a <;> by_cases hib : IsInfinite F b <;>
    cases hsa : fpSign F a <;> cases hsb : fpSign F b <;>
    simp [isInf_iff, ha, ← fpSign_iff, hia, hib, hsa, hsb, XReal.lt, fpVal_lt_iff]

/-- The model's equality of two patterns that are no NaN: neither is less. -/
theorem fpXVal_eq_iff : (fpXVal F a).eq (fpXVal F b) = true ↔ ¬XLt F a b ∧ ¬XLt F b a := by
  have hs (x : Word) : signOf F x = 0 ↔ fpSign F x = false := by rw [signOf_eq, Bool.toNat_eq_zero]
  unfold fpXVal XLt
  by_cases hia : IsInfinite F a <;> by_cases hib : IsInfinite F b <;>
    cases hsa : fpSign F a <;> cases hsb : fpSign F b <;>
    simp [isInf_iff, hs, ← fpSign_iff, hia, hib, hsa, hsb, XReal.eq, fpVal_eq_iff]

/-- The model's order of two magnitudes (40_fp_arith.md R1003). -/
theorem fpXMag_lt_iff : (fpXMag F a).lt (fpXMag F b) = true ↔ XLtMag F a b := by
  unfold fpXMag XLtMag
  by_cases hia : IsInfinite F a <;> by_cases hib : IsInfinite F b <;>
    simp [isInf_iff, hia, hib, XReal.lt, fpVal_abs_lt_iff]

theorem fpXMag_eq_iff : (fpXMag F a).eq (fpXMag F b) = true ↔ ¬XLtMag F a b ∧ ¬XLtMag F b a := by
  unfold fpXMag XLtMag
  by_cases hia : IsInfinite F a <;> by_cases hib : IsInfinite F b <;>
    simp [isInf_iff, hia, hib, XReal.eq, fpVal_abs_eq_iff]

theorem xLt_asymm (h : XLt F a b) : ¬XLt F b a := by
  have hs (x : Word) : signOf F x = 0 ↔ fpSign F x = false := by rw [signOf_eq, Bool.toNat_eq_zero]
  revert h
  unfold XLt
  by_cases hia : IsInfinite F a <;> by_cases hib : IsInfinite F b <;>
    cases hsa : fpSign F a <;> cases hsb : fpSign F b <;>
    simp +contextual [hs, ← fpSign_iff, hia, hib, hsa, hsb, le_of_lt]

theorem xLtMag_asymm (h : XLtMag F a b) : ¬XLtMag F b a := by
  obtain ⟨ha, hab⟩ := h
  rintro ⟨hb, hba⟩
  exact lt_asymm (hab.resolve_left hb) (hba.resolve_left ha)

/-! ### Minimum and maximum -/

/-- Of two numbers the pick, with no exception (40_fp_arith.md R1018). -/
theorem numCore_of_numbers (pick : Word → Word → Word) (ha : ¬IsNan F a) (hb : ¬IsNan F b) :
    numCore F pick a b = (pick a b, 0) := by
  simp [numCore, isNaN_iff, ha, hb, excNone]

/-- A number beside a NaN results as it is, and V is raised when the NaN is signalling (40_fp_arith.md R1018). -/
theorem numCore_of_nan (pick : Word → Word → Word) (ha : IsNan F a) (hb : ¬IsNan F b) :
    numCore F pick a b = (b, open Classical in if IsSignalling F a then 0b10000 else 0) ∧
      numCore F pick b a = (b, open Classical in if IsSignalling F a then 0b10000 else 0) := by
  have hsb : ¬IsSignalling F b := fun h => hb h.1
  by_cases hsa : IsSignalling F a <;>
    simp [numCore, isNaN_iff, isSNaN_iff, ha, hb, hsa, hsb, excIf, excV, excNone]

theorem numCore_of_nans (pick : Word → Word → Word) (ha : IsNan F a) (hb : IsNan F b) :
    numCore F pick a b = propagate F [a, b] := by
  simp [numCore, isNaN_iff, ha, hb]

/-- Two different values: the lesser and the greater pattern. -/
theorem picks_of_lt (h : XLt F a b) :
    pickMin F a b = a ∧ pickMax F a b = b ∧ pickMin F b a = a ∧ pickMax F b a = b := by
  have h' := xLt_asymm h
  simp [pickMin, pickMax, fpXVal_eq_iff, fpXVal_lt_iff, h, h']

/-- Two equal values of one sign: the first pattern. -/
theorem picks_of_same (h1 : ¬XLt F a b) (h2 : ¬XLt F b a) (hs : signOf F a = signOf F b) :
    pickMin F a b = a ∧ pickMax F a b = a := by
  rw [← fpSign_eq_iff] at hs
  simp [pickMin, pickMax, fpXVal_eq_iff, h1, h2, hs]

section
variable (h1 : ¬XLt F a b) (h2 : ¬XLt F b a) (hs : signOf F a ≠ signOf F b)
include h1 h2 hs

/-- Numbers of equal value and different signs are no infinities. -/
theorem not_isInfinite_of_tie : ¬IsInfinite F a := by
  intro hi
  have hsa := signOf_lt F a
  rcases (by omega : signOf F a = 0 ∨ signOf F a = 1) with ha | ha
  · exact h2 ⟨fun h => hs (ha.trans h.2.symm), fun h => by omega, .inr (.inl hi)⟩
  · exact h1 ⟨fun h => by omega, fun h => hs (ha.trans h.2.symm), .inl hi⟩

/-- Numbers of equal value and different signs are the two zeros. -/
theorem isZero_of_tie : IsZero F a ∧ IsZero F b := by
  have hia := not_isInfinite_of_tie h1 h2 hs
  have hib := not_isInfinite_of_tie h2 h1 hs.symm
  simp only [XLt, hia, hib, false_and, not_false_eq_true, true_and, false_or, not_lt] at h1 h2
  exact isZero_of_real_eq (le_antisymm h2 h1) hs

/-- The two zeros: `-0` and `+0`, in either order. -/
theorem picks_of_zeros : pickMin F a b = zeroOf F 1 ∧ pickMax F a b = zeroOf F 0 := by
  have ha := (isZero_of_tie h1 h2 hs).1
  rw [ne_eq, ← fpSign_eq_iff] at hs
  simp [pickMin, pickMax, fpXVal_eq_iff, isZero_iff, h1, h2, hs, ha, fpZero_eq]

end

theorem magPicks_of_lt (h : XLtMag F a b) :
    pickMinMag F a b = a ∧ pickMaxMag F a b = b ∧ pickMinMag F b a = a ∧ pickMaxMag F b a = b := by
  have h' := xLtMag_asymm h
  simp [pickMinMag, pickMaxMag, fpXMag_eq_iff, fpXMag_lt_iff, h, h']

theorem magPicks_of_eq (h1 : ¬XLtMag F a b) (h2 : ¬XLtMag F b a) :
    pickMinMag F a b = pickMin F a b ∧ pickMaxMag F a b = pickMax F a b := by
  simp [pickMinMag, pickMaxMag, fpXMag_eq_iff, h1, h2]

/-- The order of finite patterns is that of their values. -/
theorem xLt_iff_of_isFinite (ha : IsFinite F a) (hb : IsFinite F b) : XLt F a b ↔ real F a < real F b := by
  simp [XLt, not_isInfinite_of_isFinite ha, not_isInfinite_of_isFinite hb]

theorem real_zeroOf (F : Fmt) (s : Bool) : real F (zeroOf F s.toNat) = 0 := by
  rw [real_eq_zero_iff]
  cases F <;> cases s <;> exact ⟨rfl, rfl⟩

/-- Of finite values the minimum and the maximum (40_fp_arith.md R1018). -/
theorem real_picks (ha : IsFinite F a) (hb : IsFinite F b) :
    real F (pickMin F a b) = min (real F a) (real F b) ∧ real F (pickMax F a b) = max (real F a) (real F b) := by
  have hab := xLt_iff_of_isFinite ha hb
  have hba := xLt_iff_of_isFinite hb ha
  rcases lt_trichotomy (real F a) (real F b) with h | h | h
  · obtain ⟨hmin, hmax, -, -⟩ := picks_of_lt (hab.mpr h)
    rw [hmin, hmax, min_eq_left h.le, max_eq_right h.le]
    exact ⟨rfl, rfl⟩
  · have h1 := mt hab.mp h.not_lt
    have h2 := mt hba.mp h.not_gt
    rw [← h, min_self, max_self]
    by_cases hs : signOf F a = signOf F b
    · obtain ⟨hmin, hmax⟩ := picks_of_same h1 h2 hs
      exact ⟨congrArg _ hmin, congrArg _ hmax⟩
    · obtain ⟨hmin, hmax⟩ := picks_of_zeros h1 h2 hs
      rw [hmin, hmax, real_eq_zero_iff.mpr (isZero_of_tie h1 h2 hs).1]
      exact ⟨real_zeroOf F true, real_zeroOf F false⟩
  · obtain ⟨-, -, hmin, hmax⟩ := picks_of_lt (hba.mpr h)
    rw [hmin, hmax, min_eq_right h.le, max_eq_left h.le]
    exact ⟨rfl, rfl⟩

/-- Settles O34: of numbers the core is the pick, and the picks follow the order of the extended reals. -/
theorem minMaxNeverReturnsNanBesideNumber : Obligations.MinMaxNeverReturnsNanBesideNumber := by
  refine fun F a b => ⟨fun ha hb => ?_, fun ha hb => ?_, fun pick _ ha hb => numCore_of_nan pick ha hb,
    fun pick _ ha hb => (numCore_of_nans pick ha hb).trans (addCore_of_nan (.inl ha)).symm⟩
  · simp only [numCore_of_numbers _ ha.2 hb.2, Prod.mk.injEq, and_true]
    refine ⟨fun h => ?_, fun h => ?_, picks_of_same, fun h1 h2 hs => ?_, fun h => ?_, fun h => ?_, magPicks_of_eq⟩
    · exact ⟨(picks_of_lt h).1, (picks_of_lt h).2.1⟩
    · exact (picks_of_lt h).2.2
    · exact ⟨(isZero_of_tie h1 h2 hs).1, (isZero_of_tie h1 h2 hs).2, picks_of_zeros h1 h2 hs⟩
    · exact ⟨(magPicks_of_lt h).1, (magPicks_of_lt h).2.1⟩
    · exact (magPicks_of_lt h).2.2
  · simp only [numCore_of_numbers _ (not_isNan_of_isFinite ha) (not_isNan_of_isFinite hb)]
    exact real_picks ha hb

end Sys2Proof.Proofs.Values
end

section
/-! PROOF. Rounding a rational to an integer in a mode (40_fp_arith.md R1005): what the relation of the statements
implies, and that the model's `rint` computes it. -/

namespace Sys2Proof.Proofs.IntRounding

open Sys2Proof.Machine Sys2Proof.Spec

variable {m : RMode} {v : ℚ} {n k : Int}

/-! ### What the relation implies -/

/-- An integer is rounded to itself. -/
theorem roundsTo_self (m : RMode) (n : Int) : RoundsTo m n n := by
  cases m
  · exact .inl (by norm_num)
  · exact ⟨le_rfl, lt_add_one _, mul_self_nonneg _⟩
  · exact ⟨sub_one_lt _, le_rfl⟩
  · exact ⟨le_rfl, lt_add_one _⟩

/-- To nearest, the integer is at most a half away, and a half only if it is even. -/
theorem roundsTo_rne (h : RoundsTo .RNE v n) : |v - n| ≤ 1 / 2 ∧ (|v - n| = 1 / 2 → n % 2 = 0) := by
  rcases h with h | ⟨h, he⟩
  · exact ⟨h.le, fun h' => absurd h' h.ne⟩
  · exact ⟨h.le, fun _ => he⟩

/-- Toward zero is downward for a nonnegative rational and upward for a nonpositive one. -/
theorem roundsTo_rz (h : RoundsTo .RZ v n) :
    0 ≤ v ∧ (0 : ℚ) ≤ n ∧ n ≤ v ∧ v < n + 1 ∨ v ≤ 0 ∧ (n : ℚ) ≤ 0 ∧ n - 1 < v ∧ v ≤ n := by
  obtain ⟨h1, h2, h3⟩ := h
  rcases le_total 0 v with hv | hv
  · have hn : (0 : ℚ) ≤ n := by
      by_contra! hneg
      have : v = 0 := le_antisymm (by nlinarith) hv
      rw [this, abs_zero] at h1
      exact hneg.ne (abs_nonpos_iff.mp h1)
    rw [abs_of_nonneg hv, abs_of_nonneg hn] at *
    exact .inl ⟨hv, hn, h1, h2⟩
  · have hn : (n : ℚ) ≤ 0 := by
      by_contra! hpos
      have : v = 0 := le_antisymm hv (by nlinarith)
      rw [this, abs_zero] at h1
      exact hpos.ne' (abs_nonpos_iff.mp h1)
    rw [abs_of_nonpos hv, abs_of_nonpos hn] at *
    exact .inr ⟨hv, hn, by linarith, by linarith⟩

/-- The rounded integer is less than one away. -/
theorem abs_sub_lt_one (h : RoundsTo m v n) : |v - n| < 1 := by
  rw [abs_lt]
  cases m
  · obtain ⟨h, -⟩ := roundsTo_rne h
    rw [abs_le] at h
    constructor <;> linarith
  · rcases roundsTo_rz h with ⟨-, -, h1, h2⟩ | ⟨-, -, h1, h2⟩ <;> constructor <;> linarith
  · obtain ⟨h1, h2⟩ := h
    constructor <;> linarith
  · obtain ⟨h1, h2⟩ := h
    constructor <;> linarith

/-- The magnitude of an integer as a natural number. -/
theorem abs_cast (n : Int) : |(n : ℚ)| = (n.natAbs : ℚ) := by rw [Nat.cast_natAbs, Int.cast_abs]

/-- Two integers less than one apart are equal. -/
theorem eq_of_abs_sub_lt_one (h : |(n : ℚ) - k| < 1) : n = k := by
  have h' : |n - k| < 1 := by exact_mod_cast h
  rw [Int.abs_lt_one_iff] at h'
  omega

/-- A rational is rounded to one integer only. -/
theorem roundsTo_unique (hn : RoundsTo m v n) (hk : RoundsTo m v k) : n = k := by
  cases m
  case RNE =>
    obtain ⟨hn, hn'⟩ := roundsTo_rne hn
    obtain ⟨hk, hk'⟩ := roundsTo_rne hk
    have hle : |(n : ℚ) - k| ≤ |v - n| + |v - k| := by
      rw [abs_sub_comm v n]
      exact abs_sub_le _ _ _
    by_cases hlt : |(n : ℚ) - k| < 1
    · exact eq_of_abs_sub_lt_one hlt
    · have hn := hn' (by linarith)
      have hk := hk' (by linarith)
      have h1 : |n - k| ≤ 1 := by
        have : |(n : ℚ) - k| ≤ 1 := by linarith
        exact_mod_cast this
      rw [abs_le] at h1
      omega
  case RZ =>
    apply eq_of_abs_sub_lt_one
    rw [abs_lt]
    rcases roundsTo_rz hn with ⟨hv, h0, h1, h2⟩ | ⟨hv, h0, h1, h2⟩ <;>
      rcases roundsTo_rz hk with ⟨hv', h0', h3, h4⟩ | ⟨hv', h0', h3, h4⟩ <;>
      constructor <;> linarith
  case RP | RM =>
    apply eq_of_abs_sub_lt_one
    rw [abs_lt]
    obtain ⟨h1, h2⟩ := hn
    obtain ⟨h3, h4⟩ := hk
    constructor <;> linarith

/-- A bound in integers on a rational's magnitude from above bounds the rounded magnitude. -/
theorem abs_le_of_roundsTo (h : RoundsTo m v n) {B : Nat} (hv : |v| ≤ B) : n.natAbs ≤ B := by
  have h1 := abs_sub_lt_one h
  have h2 : |(n : ℚ)| ≤ |v| + |v - n| := by
    have := abs_sub_abs_le_abs_sub (n : ℚ) v
    rw [abs_sub_comm] at this
    linarith
  have h3 : ((n.natAbs : Nat) : ℚ) < B + 1 := by
    rw [← abs_cast]
    linarith
  exact Nat.lt_succ_iff.mp (by exact_mod_cast h3)

/-- A bound in integers on a rational's magnitude from below bounds the rounded magnitude. -/
theorem le_abs_of_roundsTo (h : RoundsTo m v n) {B : Nat} (hv : B ≤ |v|) : B ≤ n.natAbs := by
  have h1 := abs_sub_lt_one h
  have h2 := abs_sub_abs_le_abs_sub v n
  have h3 : (B : ℚ) < (n.natAbs : Nat) + 1 := by
    rw [← abs_cast]
    linarith
  exact Nat.lt_succ_iff.mp (by exact_mod_cast h3)

/-- The rationals whose rounded magnitude reaches the bound `B`, mode by mode. -/
def Reaches (m : RMode) (v : ℚ) (B : Nat) : Prop :=
  match m with
  | .RNE => (B : ℚ) - 1 / 2 ≤ |v|
  | .RZ => (B : ℚ) ≤ |v|
  | .RP => (B : ℚ) - 1 < v ∨ v ≤ -B
  | .RM => v < -((B : ℚ) - 1) ∨ (B : ℚ) ≤ v

/-- The rounded magnitude reaches an even bound exactly for those rationals. -/
theorem le_natAbs_iff (h : RoundsTo m v n) {B : Nat} (hB : B % 2 = 0) : B ≤ n.natAbs ↔ Reaches m v B := by
  have hcast : B ≤ n.natAbs ↔ (B : ℚ) ≤ |(n : ℚ)| := by
    rw [abs_cast, Nat.cast_le]
  have hsides : B ≤ n.natAbs ↔ (B : ℚ) ≤ n ∨ (n : ℚ) ≤ -B := by
    have : B ≤ n.natAbs ↔ (B : Int) ≤ n ∨ n ≤ -B := by omega
    exact_mod_cast this
  have hup (hlt : (B : ℚ) - 1 < n) : (B : ℚ) ≤ n := by
    have : (B : Int) - 1 < n := by exact_mod_cast hlt
    exact_mod_cast (show (B : Int) ≤ n by omega)
  have hdown (hlt : (n : ℚ) < -((B : ℚ) - 1)) : (n : ℚ) ≤ -B := by
    have : n < -((B : Int) - 1) := by exact_mod_cast hlt
    exact_mod_cast (show n ≤ -B by omega)
  cases m
  case RNE =>
    obtain ⟨hn, heven⟩ := roundsTo_rne h
    have h1 := abs_sub_abs_le_abs_sub v n
    have h2 := abs_sub_abs_le_abs_sub (n : ℚ) v
    rw [abs_sub_comm] at h2
    refine ⟨fun hle => ?_, fun (hle : (B : ℚ) - 1 / 2 ≤ |v|) => ?_⟩
    · have := hcast.mp hle
      show (B : ℚ) - 1 / 2 ≤ |v|
      linarith
    · by_contra! hlt
      have hlt' : ((n.natAbs : Nat) : ℚ) + 1 ≤ B := by exact_mod_cast hlt
      rw [abs_cast] at h1 h2
      have hodd : (B : ℚ) ≤ (n.natAbs : Nat) + 1 := by linarith
      have heven := heven (by linarith)
      have : B ≤ n.natAbs + 1 := by exact_mod_cast hodd
      omega
  case RZ =>
    obtain ⟨h1, h2, -⟩ := h
    refine ⟨fun hle => (hcast.mp hle).trans h1, fun (hle : (B : ℚ) ≤ |v|) => ?_⟩
    have : (B : ℚ) < ((n.natAbs : Nat) : ℚ) + 1 := by
      rw [← abs_cast]
      linarith
    exact Nat.lt_succ_iff.mp (by exact_mod_cast this)
  case RP =>
    obtain ⟨h1, h2⟩ := h
    rw [hsides]
    constructor
    · rintro (hn | hn)
      · exact .inl (by linarith)
      · exact .inr (by linarith)
    · rintro (hv | hv)
      · exact .inl (hup (by linarith))
      · exact .inr (hdown (by linarith))
  case RM =>
    obtain ⟨h1, h2⟩ := h
    rw [hsides]
    constructor
    · rintro (hn | hn)
      · exact .inr (by linarith)
      · exact .inl (by linarith)
    · rintro (hv | hv)
      · exact .inr (hdown (by linarith))
      · exact .inl (hup (by linarith))

/-! ### The model's rounding to an integer -/

/-- The number with a sign: negated when the sign is set. -/
def withSign {α : Type} [Neg α] (s : Bool) (x : α) : α := if s then -x else x

theorem withSign_cast (s : Bool) (k : Int) : ((withSign s k : Int) : ℚ) = withSign s (k : ℚ) := by
  cases s <;> simp [withSign]

theorem abs_withSign (s : Bool) (x : ℚ) : |withSign s x| = |x| := by
  cases s <;> simp [withSign]

theorem natAbs_withSign (s : Bool) (k : Nat) : (withSign s (k : Int)).natAbs = k := by
  cases s <;> simp [withSign]

theorem withSign_inj {s : Bool} {y z : ℚ} : withSign s y = withSign s z ↔ y = z := by
  cases s
  · exact Iff.rfl
  · exact neg_inj

theorem withSign_mul (s : Bool) (y z : ℚ) : withSign s y * z = withSign s (y * z) := by
  cases s
  · rfl
  · exact neg_mul y z

theorem withSign_mul_withSign (s : Bool) (y z : ℚ) : withSign s y * withSign s z = y * z := by
  cases s
  · rfl
  · exact neg_mul_neg y z

theorem withSign_div (s : Bool) (y z : ℚ) : withSign s y / z = withSign s (y / z) := by
  cases s
  · rfl
  · exact neg_div z y

/-- A sign does not change a distance. -/
theorem abs_withSign_sub (s : Bool) (x : ℚ) (k : Int) :
    |withSign s x - ((withSign s k : Int) : ℚ)| = |x - k| := by
  rw [withSign_cast]
  cases s
  · rfl
  · rw [withSign, withSign, if_pos rfl, if_pos rfl, neg_sub_neg, abs_sub_comm]

/-- `rint` of a fraction that is no integer, in the nearest mode (40_fp_arith.md R1005). -/
theorem rint_rne_of_rem (s : Bool) {n d : Nat} (hd : 0 < d) (hr : n % d ≠ 0) :
    RoundsTo .RNE (withSign s ((n / d : Nat) + ((n % d : Nat) : ℚ) / d)) (withSign s (rint .RNE s n d : Int)) := by
  have hd' : (0 : ℚ) < d := by exact_mod_cast hd
  have hlt : ((n % d : Nat) : ℚ) / d < 1 / 2 ↔ 2 * (n % d) < d := by
    rw [div_lt_div_iff₀ hd' two_pos, ← Nat.cast_lt (α := ℚ)]
    push_cast
    constructor <;> intro h <;> linarith
  have hgt : 1 / 2 < ((n % d : Nat) : ℚ) / d ↔ d < 2 * (n % d) := by
    rw [div_lt_div_iff₀ two_pos hd', ← Nat.cast_lt (α := ℚ)]
    push_cast
    constructor <;> intro h <;> linarith
  have hone : ((n % d : Nat) : ℚ) / d < 1 := (div_lt_one hd').mpr (by exact_mod_cast Nat.mod_lt n hd)
  have hzero : 0 ≤ ((n % d : Nat) : ℚ) / d := by positivity
  rw [RoundsTo, abs_withSign_sub]
  unfold rint
  simp only [hr, if_false]
  generalize ((n % d : Nat) : ℚ) / d = f at *
  generalize n / d = q at *
  split_ifs with h1 h2 h3
  · left
    rw [abs_lt]
    push_cast
    have := hgt.mpr h1
    constructor <;> linarith
  · left
    rw [abs_lt]
    push_cast
    have := hlt.mpr h2
    constructor <;> linarith
  all_goals
    have htie : f = 1 / 2 := le_antisymm (not_lt.mp (mt hgt.mp h1)) (not_lt.mp (mt hlt.mp h2))
    refine .inr ⟨?_, ?_⟩
    · rw [htie]
      push_cast
      norm_num
    · cases s <;> simp only [withSign] <;> omega

/-- `rint` of a fraction that is no integer, in the other modes (40_fp_arith.md R1005). -/
theorem rint_directed_of_rem (hm : m ≠ .RNE) (s : Bool) {n d : Nat} (hd : 0 < d) (hr : n % d ≠ 0) :
    RoundsTo m (withSign s ((n / d : Nat) + ((n % d : Nat) : ℚ) / d)) (withSign s (rint m s n d : Int)) := by
  have hd' : (0 : ℚ) < d := by exact_mod_cast hd
  have hone : ((n % d : Nat) : ℚ) / d < 1 := (div_lt_one hd').mpr (by exact_mod_cast Nat.mod_lt n hd)
  have hzero : 0 < ((n % d : Nat) : ℚ) / d := div_pos (by exact_mod_cast Nat.pos_of_ne_zero hr) hd'
  have hq : (0 : ℚ) ≤ (n / d : Nat) := Nat.cast_nonneg _
  unfold rint
  simp only [hr, if_false]
  generalize ((n % d : Nat) : ℚ) / d = f at *
  generalize n / d = q at *
  cases m
  case RNE => exact absurd rfl hm
  case RZ =>
    refine ⟨?_, ?_, ?_⟩
    · rw [withSign_cast, abs_withSign, abs_withSign, Int.cast_natCast, abs_of_nonneg hq, abs_of_nonneg] <;> linarith
    · rw [withSign_cast, abs_withSign, abs_withSign, Int.cast_natCast, abs_of_nonneg hq, abs_of_nonneg] <;> linarith
    · rw [withSign_cast]
      cases s <;> simp only [withSign, Int.cast_natCast, if_true, if_false, Bool.false_eq_true, neg_mul_neg] <;>
        positivity
  case RP | RM =>
    cases s <;> simp only [RoundsTo, withSign, if_true, if_false, Bool.false_eq_true] <;> push_cast <;>
      constructor <;> linarith

/-- `rint` rounds a fraction with a sign in the mode (40_fp_arith.md R1005). -/
theorem rint_roundsTo (m : RMode) (s : Bool) (n : Nat) {d : Nat} (hd : 0 < d) :
    RoundsTo m (withSign s ((n : ℚ) / d)) (withSign s (rint m s n d : Int)) := by
  rw [div_eq_floor_add n d hd]
  by_cases hr : n % d = 0
  · rw [rint_exact m s n d hr, hr, Nat.cast_zero, zero_div, add_zero, ← Int.cast_natCast, ← withSign_cast]
    exact roundsTo_self m _
  · by_cases hm : m = .RNE
    · subst hm
      exact rint_rne_of_rem s hd hr
    · exact rint_directed_of_rem hm s hd hr

end Sys2Proof.Proofs.IntRounding
end

section
/-! PROOF. The finite patterns of a format and their values: a pattern from its fields, one pattern for a sign and a
value, the patterns that a rounding packs (40_fp_arith.md R1000 to R1006). -/

namespace Sys2Proof.Proofs.Packing

open Sys2Proof.Machine Sys2Proof.Spec Sys2Proof.Proofs.Patterns Sys2Proof.Proofs.Values Sys2Proof.Proofs.IntRounding

variable {F : Fmt} {a b r : Word} {s : Bool} {N : Nat} {u : Int}

/-! ### The numbers of a format -/

theorem precOf_eq (F : Fmt) : precOf F = F.prec := by cases F <;> rfl

theorem eminOf_eq (F : Fmt) : eminOf F = F.emin := by cases F <;> rfl

theorem emaxOf_eq (F : Fmt) : emaxOf F = F.emax := by cases F <;> rfl

theorem emin_lt_emax (F : Fmt) : F.emin < F.emax := by cases F <;> decide

theorem prec_pos (F : Fmt) : 1 ≤ F.prec := by cases F <;> decide

/-- A power of the precision is twice the one before it. -/
theorem two_pow_prec (F : Fmt) : 2 ^ F.prec = 2 * 2 ^ (F.prec - 1) := by cases F <;> rfl

/-! ### A pattern and its fields -/

/-- The fields of a packed pattern (40_fp_arith.md R1000). -/
theorem fpPack_fields (F : Fmt) (s : Bool) {E T : Nat} (hE : E ≤ topExp F) (hT : T < 2 ^ F.fracBits) :
    IsPattern F (fpPack F s E T) ∧ signOf F (fpPack F s E T) = s.toNat ∧ expOf F (fpPack F s E T) = E ∧
      fracOf F (fpPack F s E T) = T := by
  cases F <;> cases s <;>
    simp only [topExp, Fmt.fracBits] at hE hT <;>
    simp only [fpPack, IsPattern, signOf, expOf, fracOf, Fmt.width, Fmt.fracBits, BitVec.toNat_ofNat,
      Bool.toNat_true, Bool.toNat_false, if_true, if_false, Bool.false_eq_true, true_and] <;>
    omega

/-- A pattern is determined by its fields (40_fp_arith.md R1000). -/
theorem eq_of_fields (ha : IsPattern F a) (hb : IsPattern F b) (hs : signOf F a = signOf F b)
    (he : expOf F a = expOf F b) (hf : fracOf F a = fracOf F b) : a = b := by
  apply BitVec.eq_of_toNat_eq
  have := a.isLt
  have := b.isLt
  cases F <;> simp only [IsPattern, signOf, expOf, fracOf] at ha hb hs he hf <;> omega

/-! ### The significand and the place of its last bit -/

theorem fracOf_lt (F : Fmt) (a : Word) : fracOf F a < 2 ^ (F.prec - 1) := by
  cases F <;> exact Nat.mod_lt _ (by decide)

theorem significand_eq (F : Fmt) (a : Word) :
    significand F a = if expOf F a = 0 then fracOf F a else 2 ^ (F.prec - 1) + fracOf F a := by
  cases F <;> rfl

theorem ulpExp_eq (F : Fmt) (a : Word) :
    ulpExp F a = if expOf F a = 0 then F.emin - F.prec + 1 else F.emin - F.prec + expOf F a := by
  cases F <;> simp only [ulpExp, Fmt.emin, Fmt.bias, Fmt.prec] <;> split_ifs <;> omega

theorem significand_lt (F : Fmt) (a : Word) : significand F a < 2 ^ F.prec := by
  have := fracOf_lt F a
  rw [significand_eq, two_pow_prec]
  split_ifs <;> omega

theorem le_ulpExp (F : Fmt) (a : Word) : F.emin - F.prec + 1 ≤ ulpExp F a := by
  rw [ulpExp_eq]
  split_ifs <;> omega

/-- The last place of a finite pattern is at most that of the greatest one. -/
theorem ulpExp_le (h : IsFinite F a) : ulpExp F a ≤ F.emax - F.prec + 1 := by
  have he : expOf F a < topExp F := by
    have hle : expOf F a ≤ topExp F := by
      cases F <;> exact Nat.lt_succ_iff.mp (Nat.mod_lt _ (by decide))
    exact lt_of_le_of_ne hle h.2
  rw [ulpExp_eq]
  cases F <;> simp only [topExp, Fmt.emin, Fmt.emax, Fmt.bias] at he ⊢ <;> split_ifs <;> omega

/-- Below `2^(p-1)` the last place is the least one: a zero or a subnormal. -/
theorem ulpExp_of_lt (h : significand F a < 2 ^ (F.prec - 1)) : ulpExp F a = F.emin - F.prec + 1 := by
  rw [significand_eq] at h
  rw [ulpExp_eq]
  split_ifs at h ⊢
  · rfl
  · omega

/-- The pattern is finite, with the sign, the significand and the last place given. -/
structure Packs (F : Fmt) (s : Bool) (N : Nat) (u : Int) (r : Word) : Prop where
  finite : IsFinite F r
  sign : signOf F r = s.toNat
  significand : significand F r = N
  ulp : ulpExp F r = u

theorem Packs.real_eq (h : Packs F s N u r) : real F r = withSign s (N * (2 : ℚ) ^ u) := by
  rw [← h.significand, ← h.ulp, ← abs_real_eq]
  cases s
  · exact real_of_sign_zero h.sign
  · exact real_of_sign_one h.sign

/-- A zero or a subnormal from its significand (40_fp_arith.md R1001). -/
theorem packs_subnormal (F : Fmt) (s : Bool) (hN : N < 2 ^ (F.prec - 1)) :
    Packs F s N (F.emin - F.prec + 1) (fpPack F s 0 N) := by
  have hfrac : N < 2 ^ F.fracBits := by cases F <;> exact hN
  obtain ⟨hp, hs, he, hf⟩ := fpPack_fields F s (Nat.zero_le (topExp F)) hfrac
  exact ⟨⟨hp, he.trans_ne (topExp_pos F).ne⟩, hs, by rw [significand_eq, he, hf, if_pos rfl],
    by rw [ulpExp_eq, he, if_pos rfl]⟩

/-- A normal from its significand and the exponent of its binade (40_fp_arith.md R1001). -/
theorem packs_normal (F : Fmt) (s : Bool) {e : Int} (h1 : 2 ^ (F.prec - 1) ≤ N) (h2 : N < 2 ^ F.prec)
    (h3 : F.emin ≤ e) (h4 : e ≤ F.emax) :
    Packs F s N (e - F.prec + 1) (fpPack F s (e + F.bias).toNat (N - 2 ^ (F.prec - 1))) := by
  have hfrac : N - 2 ^ (F.prec - 1) < 2 ^ F.fracBits := by
    have : 2 ^ F.fracBits = 2 ^ (F.prec - 1) := by cases F <;> rfl
    rw [two_pow_prec] at h2
    omega
  have hemin : F.emin = 1 - F.bias := rfl
  have htop : ((topExp F : Nat) : Int) = F.emax + F.bias + 1 := by cases F <;> rfl
  obtain ⟨hp, hs, he, hf⟩ := fpPack_fields F s (E := (e + F.bias).toNat) (by omega) hfrac
  have he0 : expOf F (fpPack F s (e + F.bias).toNat (N - 2 ^ (F.prec - 1))) ≠ 0 := by omega
  refine ⟨⟨hp, by omega⟩, hs, ?_, ?_⟩
  · rw [significand_eq, if_neg he0, hf]
    omega
  · rw [ulpExp_eq, if_neg he0, he]
    omega

/-- The greatest finite pattern (40_fp_arith.md R1003). -/
theorem packs_fpMaxFin (F : Fmt) (s : Bool) : Packs F s (2 ^ F.prec - 1) (F.emax - F.prec + 1) (fpMaxFin F s) := by
  have h := packs_normal F s (N := 2 ^ F.prec - 1) (e := F.emax) (by cases F <;> decide) (by cases F <;> decide)
    (emin_lt_emax F).le le_rfl
  cases F <;> exact h

/-! ### One pattern for a sign and a value -/

/-- The significand and the last place are those of one pattern only, up to the sign. -/
theorem fields_of_significand (hs : significand F a = significand F b) (hu : ulpExp F a = ulpExp F b) :
    expOf F a = expOf F b ∧ fracOf F a = fracOf F b := by
  have := fracOf_lt F a
  have := fracOf_lt F b
  rw [significand_eq, significand_eq] at hs
  rw [ulpExp_eq, ulpExp_eq] at hu
  split_ifs at hs hu <;> omega

/-- A value has one significand below `2^p` and one last place, when only the least place allows less than
`2^(p-1)`. -/
theorem ulp_le_of_value {u' : Int} {N' : Nat} (h : (N : ℚ) * 2 ^ u = N' * 2 ^ u') (hN : N < 2 ^ F.prec)
    (hN' : N' < 2 ^ (F.prec - 1) → u' = F.emin - F.prec + 1) (hu : F.emin - F.prec + 1 ≤ u) : u' ≤ u := by
  by_contra! hlt
  obtain ⟨k, rfl⟩ : ∃ k : Nat, u' = u + 1 + k := ⟨(u' - u - 1).toNat, by omega⟩
  have hbig : 2 ^ (F.prec - 1) ≤ N' := by
    by_contra! hsmall
    have := hN' hsmall
    omega
  have heq : N = N' * (2 * 2 ^ k) := by
    rw [zpow_add₀ two_ne_zero, zpow_add₀ two_ne_zero, zpow_one, zpow_natCast] at h
    have hu0 : (2 : ℚ) ^ u ≠ 0 := (zpow_pos two_pos u).ne'
    have : (N : ℚ) = N' * (2 * 2 ^ k) := by
      apply mul_right_cancel₀ hu0
      rw [h]
      ring
    exact_mod_cast this
  have hk : 1 ≤ 2 ^ k := Nat.one_le_two_pow
  rw [two_pow_prec] at hN
  nlinarith

/-- A finite pattern is determined by its sign and its magnitude. -/
theorem eq_of_abs_real (ha : IsFinite F a) (hb : IsFinite F b) (hs : signOf F a = signOf F b)
    (h : |real F a| = |real F b|) : a = b := by
  rw [abs_real_eq, abs_real_eq] at h
  have hu : ulpExp F a = ulpExp F b := le_antisymm
    (ulp_le_of_value h.symm (significand_lt F b) ulpExp_of_lt (le_ulpExp F b))
    (ulp_le_of_value h (significand_lt F a) ulpExp_of_lt (le_ulpExp F a))
  rw [hu] at h
  have hsig : significand F a = significand F b := by
    exact_mod_cast mul_right_cancel₀ (zpow_pos two_pos _).ne' h
  obtain ⟨he, hf⟩ := fields_of_significand hsig hu
  exact eq_of_fields ha.1 hb.1 hs he hf

/-! ### The greatest finite value -/

theorem greatest_eq_natCast (F : Fmt) : greatest F = ((2 ^ F.prec - 1 : Nat) : ℚ) * 2 ^ (F.emax - F.prec + 1) := by
  rw [greatest, precOf_eq, emaxOf_eq, zpow_natCast, Nat.cast_sub Nat.one_le_two_pow]
  push_cast
  rfl

/-- No finite value is beyond the greatest one. -/
theorem abs_real_le_greatest (h : IsFinite F a) : |real F a| ≤ greatest F := by
  rw [abs_real_eq, greatest_eq_natCast]
  have h1 : significand F a ≤ 2 ^ F.prec - 1 := Nat.le_sub_one_of_lt (significand_lt F a)
  have h2 : (2 : ℚ) ^ ulpExp F a ≤ 2 ^ (F.emax - F.prec + 1) := zpow_le_zpow_right₀ one_le_two (ulpExp_le h)
  have h3 : (0 : ℚ) < 2 ^ ulpExp F a := zpow_pos two_pos _
  gcongr

end Sys2Proof.Proofs.Packing
end

section
/-! PROOF. What `RoundF` delivers (40_fp_arith.md R1005 to R1007): the real over the quantum of its binade is rounded to
an integer, which overflows or is packed. -/

namespace Sys2Proof.Proofs.Rounding

open Sys2Proof.Machine Sys2Proof.Spec Sys2Proof.Proofs.Patterns Sys2Proof.Proofs.Values Sys2Proof.Proofs.IntRounding
  Sys2Proof.Proofs.Packing

variable {F : Fmt} {t : Tininess} {m : RMode} {s : Bool} {n d : Nat} {g : Int}

theorem two_pow_mul_zpow (k : Nat) (g : Int) : (2 : ℚ) ^ k * 2 ^ g = 2 ^ (k + g) := by
  rw [← zpow_natCast, ← zpow_add₀ two_ne_zero]

/-! ### Rounding at a quantum -/

/-- `rintAt` rounds the fraction over the quantum `2^g`. -/
theorem rintAt_roundsTo (m : RMode) (s : Bool) (n : Nat) (hd : 0 < d) (g : Int) :
    RoundsTo m (withSign s ((n : ℚ) / d / 2 ^ g)) (withSign s (rintAt m s n d g : Int)) := by
  obtain ⟨hpos, hval⟩ := divPow2_spec n d g hd
  rw [← hval]
  exact rint_roundsTo m s _ hpos

/-- The rounding is inexact when its result is another real. -/
theorem inexactAt_iff (m : RMode) (s : Bool) (n : Nat) (hd : 0 < d) (g : Int) :
    inexactAt n d g = true ↔ (rintAt m s n d g : ℚ) * 2 ^ g ≠ n / d := by
  obtain ⟨hpos, hval⟩ := divPow2_spec n d g hd
  have hpos' : ((divPow2 n d g).2 : ℚ) ≠ 0 := by exact_mod_cast hpos.ne'
  rw [inexactAt, bne_iff_ne, rintAt, not_iff_not, ← eq_div_iff (zpow_pos two_pos g).ne', ← hval, eq_div_iff hpos']
  constructor
  · intro h
    rw [rint_exact m s _ _ h]
    exact_mod_cast Nat.div_mul_cancel (Nat.dvd_of_mod_eq_zero h)
  · intro h
    have : rint m s (divPow2 n d g).1 (divPow2 n d g).2 * (divPow2 n d g).2 = (divPow2 n d g).1 := by exact_mod_cast h
    exact this ▸ Nat.mul_mod_left _ _

/-! ### Packing the rounded magnitude -/

theorem roundedResult_overflow {N : Nat} {e : Int} {b1 b2 : Bool} (h : F.emax < e) :
    roundedResult F m s N e b1 b2 = (ovf F m s, 0b00101) := by
  rw [roundedResult, if_pos h]
  rfl

/-- A rounded magnitude below the overflow bound is packed with its exception set (40_fp_arith.md R1005). -/
theorem roundedResult_packs {N : Nat} {e : Int} {b1 b2 : Bool} (h1 : F.emin ≤ e) (h2 : e ≤ F.emax) (hN : N < 2 ^ F.prec)
    (hsmall : N < 2 ^ (F.prec - 1) → e = F.emin) :
    Packs F s N (e - F.prec + 1) (roundedResult F m s N e b1 b2).1 ∧
      (roundedResult F m s N e b1 b2).2 = if b2 then (if b1 then 0b11 else 0b01) else 0 := by
  have hexc : excIf b2 excI ||| excIf (b1 && b2) excU = if b2 then (if b1 then 0b11 else 0b01) else 0 := by
    cases b1 <;> cases b2 <;> rfl
  unfold roundedResult
  rw [if_neg (not_lt.mpr h2), hexc]
  dsimp only
  refine ⟨?_, by split_ifs <;> rfl⟩
  by_cases hlt : N < 2 ^ (F.prec - 1)
  · have hpack := packs_subnormal F s hlt
    rw [hsmall hlt]
    by_cases h0 : N = 0
    · rw [if_pos h0]
      subst h0
      exact hpack
    · rw [if_neg h0, if_pos hlt]
      exact hpack
  · have h0 : N ≠ 0 := by
      rintro rfl
      exact hlt (Nat.two_pow_pos _)
    rw [if_neg h0, if_neg hlt]
    exact packs_normal F s (not_lt.mp hlt) hN h1 h2

/-! ### The rounded integer of a fraction with a sign -/

/-- The sign of an exact fraction. -/
def negative (x : Exact) : Bool := decide (x.num < 0)

/-- The exponent of the binade of an exact fraction: `floor(log2 |x|)` (40_fp_arith.md R1005). -/
def exponent (x : Exact) : Int := floorLog2 x.num.natAbs x.den

/-- The exponent of the quantum that an exact fraction is rounded at (40_fp_arith.md R1005). -/
def quantum (F : Fmt) (x : Exact) : Int := max (exponent x) F.emin - F.prec + 1

/-- The exact fraction over its quantum, rounded to an integer (40_fp_arith.md R1005). -/
def rounded (F : Fmt) (m : RMode) (x : Exact) : Int :=
  withSign (negative x) (rintAt m (negative x) x.num.natAbs x.den (quantum F x) : Int)

/-- The model's tininess of an exact fraction (40_fp_arith.md R1007). -/
def isTiny (F : Fmt) (t : Tininess) (m : RMode) (x : Exact) : Bool :=
  tiny F t m (negative x) x.num.natAbs x.den (exponent x)

theorem real_eq_withSign (x : Exact) : x.real = withSign (negative x) ((x.num.natAbs : ℚ) / x.den) := by
  rw [Exact.real, ← abs_cast, negative, withSign]
  by_cases h : x.num < 0
  · rw [if_pos (decide_eq_true h), abs_of_neg (by exact_mod_cast h), neg_div, neg_neg]
  · rw [if_neg (by simpa using h), abs_of_nonneg (by exact_mod_cast not_lt.mp h)]

theorem abs_real_eq_div (x : Exact) : |x.real| = (x.num.natAbs : ℚ) / x.den := by
  rw [real_eq_withSign, abs_withSign, abs_of_nonneg (by positivity)]

theorem abs_div_quantum (F : Fmt) (x : Exact) : |x.real / 2 ^ quantum F x| = |x.real| / 2 ^ quantum F x := by
  rw [abs_div, abs_of_pos (show (0 : ℚ) < 2 ^ quantum F x from zpow_pos two_pos _)]

theorem natAbs_rounded (F : Fmt) (m : RMode) (x : Exact) :
    (rounded F m x).natAbs = rintAt m (negative x) x.num.natAbs x.den (quantum F x) := natAbs_withSign _ _

section
variable {x : Exact} (hd : 0 < x.den)
include hd

theorem real_neg_iff : x.real < 0 ↔ x.num < 0 := by
  rw [Exact.real, div_lt_iff₀ (by exact_mod_cast hd), zero_mul]
  exact_mod_cast Iff.rfl

theorem negative_iff : negative x = true ↔ x.real < 0 := by rw [negative, decide_eq_true_iff, real_neg_iff hd]

theorem signBit_real : signBit x.real = (negative x).toNat := by
  rw [signBit, negative]
  by_cases h : x.num < 0
  · rw [if_pos ((real_neg_iff hd).mpr h), decide_eq_true h, Bool.toNat_true]
  · rw [if_neg (mt (real_neg_iff hd).mp h), decide_eq_false h, Bool.toNat_false]

theorem rounded_roundsTo (F : Fmt) (m : RMode) : RoundsTo m (x.real / 2 ^ quantum F x) (rounded F m x) := by
  have h := rintAt_roundsTo m (negative x) x.num.natAbs hd (quantum F x)
  rwa [← withSign_div, ← real_eq_withSign] at h

variable (hn : x.num ≠ 0)
include hn

theorem exponent_spec : (2 : ℚ) ^ exponent x ≤ |x.real| ∧ |x.real| < 2 ^ (exponent x + 1) := by
  rw [abs_real_eq_div]
  exact floorLog2_spec _ _ (Int.natAbs_pos.mpr hn) hd

/-- The binade of the real is at most that of the quantum. -/
theorem abs_real_lt_quantum (F : Fmt) : |x.real| < 2 ^ F.prec * 2 ^ quantum F x := by
  refine (exponent_spec hd hn).2.trans_le ?_
  rw [two_pow_mul_zpow, quantum]
  exact zpow_le_zpow_right₀ one_le_two (by omega)

/-- Above the subnormals the quantum is that of the binade. -/
theorem quantum_le_abs_real (h : F.emin ≤ exponent x) : (2 : ℚ) ^ (F.prec - 1) * 2 ^ quantum F x ≤ |x.real| := by
  refine le_of_eq_of_le ?_ (exponent_spec hd hn).1
  have hp := prec_pos F
  rw [two_pow_mul_zpow, quantum, max_eq_left h]
  congr 1
  omega

/-- The rounded integer has at most `p` bits, or is `2^p` (40_fp_arith.md R1005). -/
theorem natAbs_rounded_le (F : Fmt) (m : RMode) : (rounded F m x).natAbs ≤ 2 ^ F.prec := by
  refine abs_le_of_roundsTo (rounded_roundsTo hd F m) ?_
  rw [abs_div_quantum, div_le_iff₀ (zpow_pos two_pos _)]
  exact_mod_cast (abs_real_lt_quantum hd hn F).le

/-- Above the subnormals it has `p` bits at least (40_fp_arith.md R1005). -/
theorem le_natAbs_rounded (m : RMode) (h : F.emin ≤ exponent x) : 2 ^ (F.prec - 1) ≤ (rounded F m x).natAbs := by
  refine le_abs_of_roundsTo (rounded_roundsTo hd F m) ?_
  rw [abs_div_quantum, le_div_iff₀ (zpow_pos two_pos _)]
  exact_mod_cast quantum_le_abs_real hd hn h

/-! ### What `RoundF` delivers -/

/-- The significand and the exponent that are packed: those of the rounded integer, but for a carry out of the binade
(40_fp_arith.md R1005). -/
theorem roundF_carry (F : Fmt) (t : Tininess) (m : RMode) : ∃ (N : Nat) (e : Int),
    roundF F t m x = roundedResult F m (negative x) N e (isTiny F t m x) (inexactAt x.num.natAbs x.den (quantum F x)) ∧
    N < 2 ^ F.prec ∧ (N < 2 ^ (F.prec - 1) → e = F.emin) ∧ F.emin ≤ e ∧
    (N : ℚ) * 2 ^ (e - F.prec + 1) = (rounded F m x).natAbs * 2 ^ quantum F x ∧
    N % 2 = (rounded F m x).natAbs % 2 := by
  have hle := natAbs_rounded_le hd hn F m
  have hge := le_natAbs_rounded (F := F) hd hn m
  have hcase : roundF F t m x = if (rounded F m x).natAbs = 2 ^ F.prec then
      roundedResult F m (negative x) (2 ^ (F.prec - 1)) (max (exponent x) F.emin + 1) (isTiny F t m x)
        (inexactAt x.num.natAbs x.den (quantum F x))
      else roundedResult F m (negative x) (rounded F m x).natAbs (max (exponent x) F.emin) (isTiny F t m x)
        (inexactAt x.num.natAbs x.den (quantum F x)) := by
    rw [natAbs_rounded]
    rfl
  rw [hcase]
  by_cases hN : (rounded F m x).natAbs = 2 ^ F.prec
  · rw [if_pos hN]
    refine ⟨2 ^ (F.prec - 1), max (exponent x) F.emin + 1, rfl, by cases F <;> decide, fun h => absurd h (lt_irrefl _),
      by omega, ?_, by rw [hN]; cases F <;> decide⟩
    have he : max (exponent x) F.emin + 1 - F.prec + 1 = quantum F x + 1 := by
      rw [quantum]
      omega
    rw [hN, two_pow_prec, he, zpow_add_one₀ two_ne_zero]
    push_cast
    ring
  · rw [if_neg hN]
    refine ⟨(rounded F m x).natAbs, max (exponent x) F.emin, rfl, lt_of_le_of_ne hle hN, fun h => ?_, le_max_right _ _,
      rfl, rfl⟩
    exact max_eq_right (not_lt.mp fun hlt => absurd (hge hlt.le) (not_le.mpr h))

end

/-- The rounded value of the real: the rounded integer times the quantum. -/
def roundedValue (F : Fmt) (m : RMode) (x : Exact) : ℚ := rounded F m x * 2 ^ quantum F x

/-- What `RoundF` delivers without overflow: a finite pattern of the sign of the real, whose value is the rounded
one; I when this is not the real, and U with it when the real is tiny. -/
structure Delivers (F : Fmt) (t : Tininess) (m : RMode) (x : Exact) (r : Word × ExcSet) : Prop where
  finite : IsFinite F r.1
  sign : signOf F r.1 = signBit x.real
  value : real F r.1 = roundedValue F m x
  parity : significand F r.1 % 2 = (rounded F m x).natAbs % 2
  exceptions : r.2 = if real F r.1 = x.real then 0 else if isTiny F t m x then 0b00011 else 0b00001

/-- The rounded magnitude is `2^(emax + 1)` or more (40_fp_arith.md R1006). -/
def Exceeds (F : Fmt) (m : RMode) (x : Exact) : Prop :=
  (2 : ℚ) ^ (F.emax + 1) ≤ (rounded F m x).natAbs * 2 ^ quantum F x

theorem roundedValue_eq (F : Fmt) (m : RMode) (x : Exact) :
    roundedValue F m x = withSign (negative x) ((rounded F m x).natAbs * (2 : ℚ) ^ quantum F x) := by
  rw [roundedValue, ← withSign_mul, natAbs_rounded, rounded, withSign_cast, Int.cast_natCast]

/-- A packed rounding is what `RoundF` delivers. -/
theorem delivers_of_packs {x : Exact} (hd : 0 < x.den) {N : Nat} {u : Int} {r : Word × ExcSet}
    (hp : Packs F (negative x) N u r.1) (hval : (N : ℚ) * 2 ^ u = (rounded F m x).natAbs * 2 ^ quantum F x)
    (hpar : N % 2 = (rounded F m x).natAbs % 2)
    (hexc : r.2 = if inexactAt x.num.natAbs x.den (quantum F x) then (if isTiny F t m x then 0b11 else 0b01) else 0) :
    Delivers F t m x r where
  finite := hp.finite
  sign := hp.sign.trans (signBit_real hd).symm
  value := by rw [hp.real_eq, hval, roundedValue_eq]
  parity := hp.significand ▸ hpar
  exceptions := by
    have hinexact : inexactAt x.num.natAbs x.den (quantum F x) = true ↔ real F r.1 ≠ x.real := by
      rw [inexactAt_iff m (negative x) _ hd, hp.real_eq, real_eq_withSign, ne_eq, ne_eq, withSign_inj, hval,
        natAbs_rounded]
    rw [hexc]
    by_cases h : real F r.1 = x.real
    · rw [if_neg (by simp [hinexact, h]), if_pos h]
    · rw [if_pos (hinexact.mpr h), if_neg h]

/-- `RoundF` overflows or delivers the rounded value (40_fp_arith.md R1005, R1006). -/
theorem roundF_cases {x : Exact} (hd : 0 < x.den) (hn : x.num ≠ 0) (F : Fmt) (t : Tininess) (m : RMode) :
    Exceeds F m x ∧ roundF F t m x = (ovf F m (negative x), 0b00101) ∨
      ¬Exceeds F m x ∧ Delivers F t m x (roundF F t m x) := by
  obtain ⟨N, e, hr, hN, hsmall, hemin, hval, hpar⟩ := roundF_carry hd hn F t m
  have hu : (0 : ℚ) < 2 ^ (e - F.prec + 1) := zpow_pos two_pos _
  have hp := prec_pos F
  rw [hr, Exceeds, ← hval]
  by_cases he : F.emax < e
  · refine .inl ⟨?_, roundedResult_overflow he⟩
    have hbig : 2 ^ (F.prec - 1) ≤ N := not_lt.mp fun h => by
      have := hsmall h
      have := emin_lt_emax F
      omega
    calc (2 : ℚ) ^ (F.emax + 1) ≤ 2 ^ ((F.prec - 1 : Nat) + (e - F.prec + 1)) :=
          zpow_le_zpow_right₀ one_le_two (by omega)
      _ = 2 ^ (F.prec - 1) * 2 ^ (e - F.prec + 1) := (two_pow_mul_zpow _ _).symm
      _ ≤ N * 2 ^ (e - F.prec + 1) := by gcongr; exact_mod_cast hbig
  · obtain ⟨hpack, hexc⟩ := roundedResult_packs (F := F) (m := m) (s := negative x) (N := N) (b1 := isTiny F t m x)
      (b2 := inexactAt x.num.natAbs x.den (quantum F x)) hemin (not_lt.mp he) hN hsmall
    refine .inr ⟨not_le.mpr ?_, delivers_of_packs hd hpack hval hpar hexc⟩
    calc (N : ℚ) * 2 ^ (e - F.prec + 1) < 2 ^ F.prec * 2 ^ (e - F.prec + 1) := by gcongr; exact_mod_cast hN
      _ = 2 ^ (F.prec + (e - F.prec + 1)) := two_pow_mul_zpow _ _
      _ ≤ 2 ^ (F.emax + 1) := zpow_le_zpow_right₀ one_le_two (by omega)

end Sys2Proof.Proofs.Rounding
end

section
/-! PROOF. When a rounding overflows, and what it gives then (40_fp_arith.md R1006). -/

namespace Sys2Proof.Proofs.Overflow

open Sys2Proof.Machine Sys2Proof.Spec Sys2Proof.Proofs.Patterns Sys2Proof.Proofs.IntRounding Sys2Proof.Proofs.Packing
  Sys2Proof.Proofs.Rounding

variable {F : Fmt} {m : RMode} {s : Bool} {x : Exact} {v : ℚ}

/-! ### The bounds of overflow -/

/-- `2^(emax + 1)` is `2^p` quanta of the greatest binade. -/
theorem two_pow_emax_succ (F : Fmt) : (2 : ℚ) ^ (F.emax + 1) = 2 ^ F.prec * 2 ^ (F.emax - F.prec + 1) := by
  rw [two_pow_mul_zpow]
  congr 1
  omega

theorem greatestTie_eq (F : Fmt) : greatestTie F = (2 ^ F.prec - 1 / 2) * 2 ^ (F.emax - F.prec + 1) := by
  rw [greatestTie, precOf_eq, emaxOf_eq, zpow_natCast]

theorem greatest_eq (F : Fmt) : greatest F = (2 ^ F.prec - 1) * 2 ^ (F.emax - F.prec + 1) := by
  rw [greatest, precOf_eq, emaxOf_eq, zpow_natCast]

theorem greatest_lt_greatestTie (F : Fmt) : greatest F < greatestTie F := by
  rw [greatest_eq, greatestTie_eq]
  gcongr
  norm_num

theorem greatestTie_lt (F : Fmt) : greatestTie F < 2 ^ (F.emax + 1) := by
  rw [greatestTie_eq, two_pow_emax_succ]
  gcongr
  norm_num

theorem greatest_pos (F : Fmt) : 0 < greatest F := by
  rw [greatest_eq]
  have : (1 : ℚ) < 2 ^ F.prec := one_lt_pow₀ one_lt_two (by cases F <;> decide)
  have : (0 : ℚ) < 2 ^ F.prec - 1 := by linarith
  positivity

/-- The greatest value is in the greatest binade. -/
theorem two_pow_emax_le_greatest (F : Fmt) : 2 ^ F.emax ≤ greatest F := by
  have h := two_pow_emax_succ F
  rw [zpow_add_one₀ two_ne_zero] at h
  have hp : (2 : ℚ) ≤ 2 ^ F.prec := le_self_pow₀ one_le_two (by cases F <;> decide)
  have hu : (0 : ℚ) < 2 ^ (F.emax - F.prec + 1) := zpow_pos two_pos _
  rw [greatest_eq]
  nlinarith

/-- A rounding overflows only beyond every finite value. -/
theorem greatest_lt_abs_of_overflows (h : Overflows F m v) : greatest F < |v| := by
  have h1 := greatest_lt_greatestTie F
  have h2 := greatestTie_lt F
  have h3 := le_abs_self v
  have h4 := neg_le_abs v
  rw [← emaxOf_eq] at h2
  cases m
  · exact h1.trans_le h
  · exact (h1.trans h2).trans_le h
  · rcases h with h | h <;> linarith
  · rcases h with h | h <;> linarith

/-- From `2^(emax + 1)` on every rounding overflows. -/
theorem overflows_of_le_abs (m : RMode) (h : 2 ^ (F.emax + 1) ≤ |v|) : Overflows F m v := by
  have h1 := greatest_lt_greatestTie F
  have h2 := greatestTie_lt F
  rw [← emaxOf_eq] at h h2
  cases m
  · exact h2.le.trans h
  · exact h
  · rcases le_abs.mp h with h | h
    · exact .inl (by linarith)
    · exact .inr (by linarith)
  · rcases le_abs.mp h with h | h
    · exact .inr h
    · exact .inl (by linarith)

/-- In the greatest binade overflow is a bound on the number of quanta. -/
theorem reaches_iff_overflows (F : Fmt) (m : RMode) (v : ℚ) :
    Reaches m (v / 2 ^ (F.emax - F.prec + 1)) (2 ^ F.prec) ↔ Overflows F m v := by
  have hu : (0 : ℚ) < 2 ^ (F.emax - F.prec + 1) := zpow_pos two_pos _
  cases m <;>
    simp only [Reaches, Overflows, abs_div, abs_of_pos hu, emaxOf_eq, two_pow_emax_succ, greatest_eq, greatestTie_eq,
      le_div_iff₀ hu, lt_div_iff₀ hu, div_le_iff₀ hu, div_lt_iff₀ hu, Nat.cast_pow, Nat.cast_ofNat, neg_mul]

/-- The rounded magnitude is `2^(emax + 1)` or more exactly for the reals of the statements, mode by mode. -/
theorem exceeds_iff_overflows (hd : 0 < x.den) (hn : x.num ≠ 0) (F : Fmt) (m : RMode) :
    Exceeds F m x ↔ Overflows F m x.real := by
  obtain ⟨hlo, hhi⟩ := exponent_spec hd hn
  have hemin := emin_lt_emax F
  rw [Exceeds]
  rcases lt_trichotomy (exponent x) F.emax with he | he | he
  · refine iff_of_false (not_le.mpr ?_) fun h => ?_
    · have hle : ((rounded F m x).natAbs : ℚ) ≤ 2 ^ F.prec := by exact_mod_cast natAbs_rounded_le hd hn F m
      calc ((rounded F m x).natAbs : ℚ) * 2 ^ quantum F x ≤ 2 ^ F.prec * 2 ^ quantum F x := by gcongr
        _ = 2 ^ (F.prec + quantum F x) := two_pow_mul_zpow _ _
        _ < 2 ^ (F.emax + 1) := zpow_lt_zpow_right₀ one_lt_two (by rw [quantum]; omega)
    · have h1 := greatest_lt_abs_of_overflows h
      have h2 := two_pow_emax_le_greatest F
      have h3 : (2 : ℚ) ^ (exponent x + 1) ≤ 2 ^ F.emax := zpow_le_zpow_right₀ one_le_two (by omega)
      linarith
  · have hq : quantum F x = F.emax - F.prec + 1 := by rw [quantum, he, max_eq_left hemin.le]
    have hr := rounded_roundsTo hd F m
    rw [hq] at hr ⊢
    rw [← reaches_iff_overflows, ← le_natAbs_iff hr (by cases F <;> decide), two_pow_emax_succ,
      mul_le_mul_iff_left₀ (zpow_pos two_pos _)]
    exact_mod_cast Iff.rfl
  · have h1 : (2 : ℚ) ^ (F.emax + 1) ≤ 2 ^ exponent x := zpow_le_zpow_right₀ one_le_two (by omega)
    refine iff_of_true ?_ (overflows_of_le_abs m (h1.trans hlo))
    have hge : (2 : ℚ) ^ (F.prec - 1) ≤ (rounded F m x).natAbs := by
      exact_mod_cast le_natAbs_rounded (F := F) hd hn m (by omega)
    have hp := prec_pos F
    calc (2 : ℚ) ^ (F.emax + 1) ≤ 2 ^ ((F.prec - 1 : Nat) + quantum F x) :=
          zpow_le_zpow_right₀ one_le_two (by rw [quantum]; omega)
      _ = 2 ^ (F.prec - 1) * 2 ^ quantum F x := (two_pow_mul_zpow _ _).symm
      _ ≤ (rounded F m x).natAbs * 2 ^ quantum F x := by gcongr

/-! ### The results of an overflow -/

theorem fpInf_infinite (F : Fmt) (s : Bool) : IsInfinite F (fpInf F s) ∧ signOf F (fpInf F s) = s.toNat := by
  cases F <;> cases s <;> exact ⟨⟨rfl, rfl⟩, rfl⟩

/-- The result of an overflow has the sign of the real (40_fp_arith.md R1006). -/
theorem signOf_ovf (F : Fmt) (m : RMode) (s : Bool) : signOf F (ovf F m s) = s.toNat := by
  cases F <;> cases m <;> cases s <;> rfl

/-- The greatest finite value with a sign (40_fp_arith.md R1003). -/
theorem real_fpMaxFin (F : Fmt) (s : Bool) : real F (fpMaxFin F s) = withSign s (greatest F) := by
  rw [(packs_fpMaxFin F s).real_eq, greatest_eq_natCast]

/-- `RoundF` overflows exactly for the reals of the statements, and delivers the rounded value of the others. -/
theorem roundF_overflow_cases (hd : 0 < x.den) (hn : x.num ≠ 0) (F : Fmt) (t : Tininess) (m : RMode) :
    Overflows F m x.real ∧ roundF F t m x = (ovf F m (negative x), 0b00101) ∨
      ¬Overflows F m x.real ∧ Delivers F t m x (roundF F t m x) := by
  rw [← exceeds_iff_overflows hd hn]
  exact roundF_cases hd hn F t m

/-- The result of every rounding has the sign of the real (40_fp_arith.md R1005). -/
theorem signOf_roundF (hd : 0 < x.den) (hn : x.num ≠ 0) (F : Fmt) (t : Tininess) (m : RMode) :
    signOf F (roundF F t m x).1 = signBit x.real := by
  rcases roundF_overflow_cases hd hn F t m with ⟨-, h⟩ | ⟨-, h⟩
  · rw [h, signOf_ovf, signBit_real hd]
  · exact h.sign

end Sys2Proof.Proofs.Overflow
end

section
/-! PROOF. The finite values of a format around a real, and from them the statements about `RoundF`: exact results
(O26), nearest (O27) and directed (O28) rounding, and the exceptions (O29). -/

namespace Sys2Proof.Proofs.Nearest

open Sys2Proof.Machine Sys2Proof.Spec Sys2Proof.Proofs.Patterns Sys2Proof.Proofs.Values Sys2Proof.Proofs.IntRounding
  Sys2Proof.Proofs.Packing Sys2Proof.Proofs.Rounding Sys2Proof.Proofs.Overflow

variable {F : Fmt} {t : Tininess} {m : RMode} {x : Exact} {w : ℚ} {r : Word × ExcSet}

/-! ### The values of a format -/

/-- A value that a finite pattern can have, but for its size: an integer of `p` bits times a quantum. -/
def OnFormat (F : Fmt) (w : ℚ) : Prop :=
  ∃ k u : Int, w = k * 2 ^ u ∧ |(k : ℚ)| < 2 ^ F.prec ∧ F.emin - F.prec + 1 ≤ u

theorem onFormat_neg (h : OnFormat F w) : OnFormat F (-w) := by
  obtain ⟨k, u, hw, hk, hu⟩ := h
  exact ⟨-k, u, by rw [hw]; push_cast; ring, by rwa [Int.cast_neg, abs_neg], hu⟩

theorem onFormat_real (F : Fmt) (y : Word) : OnFormat F (real F y) := by
  have hmag : OnFormat F |real F y| :=
    ⟨significand F y, ulpExp F y, by rw [abs_real_eq, Int.cast_natCast],
      by rw [Int.cast_natCast, Nat.abs_cast]; exact_mod_cast significand_lt F y, le_ulpExp F y⟩
  rcases abs_choice (real F y) with h | h
  · exact h ▸ hmag
  · have := onFormat_neg hmag
    rwa [h, neg_neg] at this

theorem onFormat_abs (h : OnFormat F w) : OnFormat F |w| := by
  rcases abs_choice w with h' | h'
  · exact h'.symm ▸ h
  · exact h'.symm ▸ onFormat_neg h

/-- A value of the format is a multiple of the quantum of the real, or a multiple lies between the two: there are no
closer values below the binade of the real. -/
theorem multiple_or_between (hd : 0 < x.den) (hn : x.num ≠ 0) (h : OnFormat F w) : ∃ k : Int,
    w = k * 2 ^ quantum F x ∨ (x.real ≤ k * 2 ^ quantum F x ∧ k * 2 ^ quantum F x < w) ∨
      (w < k * 2 ^ quantum F x ∧ k * 2 ^ quantum F x ≤ x.real) := by
  obtain ⟨k, u, rfl, hk, hu⟩ := h
  by_cases hqu : quantum F x ≤ u
  · obtain ⟨j, rfl⟩ : ∃ j : Nat, u = j + quantum F x := ⟨(u - quantum F x).toNat, by omega⟩
    refine ⟨k * 2 ^ j, .inl ?_⟩
    rw [← two_pow_mul_zpow]
    push_cast
    ring
  · have hemin : F.emin ≤ exponent x := by
      unfold quantum at hqu
      omega
    have hbelow := quantum_le_abs_real (F := F) hd hn hemin
    have hw : |(k : ℚ) * 2 ^ u| < 2 ^ (F.prec - 1) * 2 ^ quantum F x := by
      have hp := prec_pos F
      rw [abs_mul, abs_of_pos (show (0 : ℚ) < 2 ^ u from zpow_pos two_pos _)]
      calc |(k : ℚ)| * 2 ^ u < 2 ^ F.prec * 2 ^ u := by gcongr
        _ = 2 ^ (F.prec + u) := two_pow_mul_zpow _ _
        _ ≤ 2 ^ ((F.prec - 1 : Nat) + quantum F x) := zpow_le_zpow_right₀ one_le_two (by omega)
        _ = 2 ^ (F.prec - 1) * 2 ^ quantum F x := (two_pow_mul_zpow _ _).symm
    obtain ⟨hw1, hw2⟩ := abs_lt.mp hw
    rcases le_abs.mp hbelow with hx | hx
    · refine ⟨2 ^ (F.prec - 1), .inr (.inr ?_)⟩
      push_cast
      exact ⟨hw2, hx⟩
    · refine ⟨-2 ^ (F.prec - 1), .inr (.inl ?_)⟩
      push_cast
      rw [neg_mul]
      exact ⟨by linarith, hw1⟩

/-! ### The rounded value and the multiples of the quantum -/

/-- To nearest, no multiple of the quantum is closer; and no other one is as close, unless the rounded integer is
even. -/
theorem rne_nearest_multiple (hd : 0 < x.den) (k : Int) :
    |x.real - roundedValue F .RNE x| ≤ |x.real - k * 2 ^ quantum F x| ∧
      (|x.real - roundedValue F .RNE x| = |x.real - k * 2 ^ quantum F x| → k ≠ rounded F .RNE x →
        rounded F .RNE x % 2 = 0) := by
  obtain ⟨hhalf, heven⟩ := roundsTo_rne (rounded_roundsTo hd F .RNE)
  have hu : (0 : ℚ) < 2 ^ quantum F x := zpow_pos two_pos _
  have hscale (j : Int) : |x.real - j * 2 ^ quantum F x| = |x.real / 2 ^ quantum F x - j| * 2 ^ quantum F x := by
    rw [← abs_of_pos hu, ← abs_mul, abs_of_pos hu, sub_mul, div_mul_cancel₀ _ hu.ne']
  rw [roundedValue, hscale, hscale, mul_le_mul_iff_left₀ hu, mul_left_inj' hu.ne']
  by_cases hk : k = rounded F .RNE x
  · exact ⟨by rw [hk], fun _ hne => absurd hk hne⟩
  · have hone : (1 : ℚ) ≤ |(rounded F .RNE x : ℚ) - k| := by
      have : 1 ≤ |rounded F .RNE x - k| := Int.one_le_abs (sub_ne_zero.mpr (Ne.symm hk))
      exact_mod_cast this
    have htri := abs_sub_le (rounded F .RNE x : ℚ) (x.real / 2 ^ quantum F x) k
    rw [abs_sub_comm (rounded F .RNE x : ℚ) (x.real / _)] at htri
    exact ⟨by linarith, fun heq _ => heven (by linarith)⟩

/-- Upward, the rounded value is the least multiple of the quantum that is not below the real. -/
theorem rp_least_multiple (hd : 0 < x.den) : x.real ≤ roundedValue F .RP x ∧
    ∀ k : Int, x.real ≤ k * 2 ^ quantum F x → roundedValue F .RP x ≤ k * 2 ^ quantum F x := by
  have hu : (0 : ℚ) < 2 ^ quantum F x := zpow_pos two_pos _
  obtain ⟨h1, h2⟩ := rounded_roundsTo hd F .RP
  refine ⟨(div_le_iff₀ hu).mp h2, fun k hk => ?_⟩
  have hk' : (rounded F .RP x : ℚ) - 1 < k := h1.trans_le ((div_le_iff₀ hu).mpr hk)
  have hle : rounded F .RP x ≤ k := by
    have : rounded F .RP x - 1 < k := by exact_mod_cast hk'
    omega
  exact mul_le_mul_of_nonneg_right (by exact_mod_cast hle) hu.le

/-- Downward, it is the greatest multiple that is not above the real. -/
theorem rm_greatest_multiple (hd : 0 < x.den) : roundedValue F .RM x ≤ x.real ∧
    ∀ k : Int, k * 2 ^ quantum F x ≤ x.real → k * 2 ^ quantum F x ≤ roundedValue F .RM x := by
  have hu : (0 : ℚ) < 2 ^ quantum F x := zpow_pos two_pos _
  obtain ⟨h1, h2⟩ := rounded_roundsTo hd F .RM
  refine ⟨(le_div_iff₀ hu).mp h1, fun k hk => ?_⟩
  have hk' : (k : ℚ) < rounded F .RM x + 1 := ((le_div_iff₀ hu).mpr hk).trans_lt h2
  have hle : k ≤ rounded F .RM x := by
    have : k < rounded F .RM x + 1 := by exact_mod_cast hk'
    omega
  exact mul_le_mul_of_nonneg_right (by exact_mod_cast hle) hu.le

/-- Toward zero, it is the value rounded down of a nonnegative real and the value rounded up of a nonpositive one. -/
theorem rz_cases (hd : 0 < x.den) :
    0 ≤ x.real ∧ 0 ≤ roundedValue F .RZ x ∧ roundedValue F .RZ x = roundedValue F .RM x ∨
      x.real ≤ 0 ∧ roundedValue F .RZ x ≤ 0 ∧ roundedValue F .RZ x = roundedValue F .RP x := by
  have hu : (0 : ℚ) < 2 ^ quantum F x := zpow_pos two_pos _
  rcases roundsTo_rz (rounded_roundsTo hd F .RZ) with ⟨hv, hn, h1, h2⟩ | ⟨hv, hn, h1, h2⟩
  · rw [le_div_iff₀ hu, zero_mul] at hv
    refine .inl ⟨hv, mul_nonneg hn hu.le, ?_⟩
    rw [roundedValue, roundedValue, roundsTo_unique (rounded_roundsTo hd F .RM) ⟨h1, h2⟩]
  · rw [div_le_iff₀ hu, zero_mul] at hv
    refine .inr ⟨hv, mul_nonpos_of_nonpos_of_nonneg hn hu.le, ?_⟩
    rw [roundedValue, roundedValue, roundsTo_unique (rounded_roundsTo hd F .RP) ⟨h1, h2⟩]

/-- Toward zero, the rounded value is not beyond the real, and on its side of zero. -/
theorem rz_not_beyond (hd : 0 < x.den) : |roundedValue F .RZ x| ≤ |x.real| ∧ 0 ≤ roundedValue F .RZ x * x.real := by
  rcases rz_cases (F := F) hd with ⟨hx, hy, heq⟩ | ⟨hx, hy, heq⟩
  · refine ⟨?_, mul_nonneg hy hx⟩
    rw [abs_of_nonneg hx, abs_of_nonneg hy, heq]
    exact (rm_greatest_multiple hd).1
  · refine ⟨?_, mul_nonneg_of_nonpos_of_nonpos hy hx⟩
    rw [abs_of_nonpos hx, abs_of_nonpos hy, heq]
    exact neg_le_neg (rp_least_multiple hd).1

/-! ### The rounded value and the values of the format -/

section
variable (hd : 0 < x.den) (hn : x.num ≠ 0)
include hd hn

theorem rne_nearest (h : OnFormat F w) :
    |x.real - roundedValue F .RNE x| ≤ |x.real - w| ∧
      (|x.real - roundedValue F .RNE x| = |x.real - w| → w ≠ roundedValue F .RNE x →
        rounded F .RNE x % 2 = 0) := by
  obtain ⟨k, hk⟩ := multiple_or_between hd hn h
  obtain ⟨hle, htie⟩ := rne_nearest_multiple (F := F) hd k
  rcases hk with rfl | hk
  · refine ⟨hle, fun heq hne => htie heq fun hkN => hne ?_⟩
    rw [hkN, roundedValue]
  · have hlt : |x.real - k * 2 ^ quantum F x| < |x.real - w| := by
      rcases hk with ⟨h1, h2⟩ | ⟨h1, h2⟩
      · rw [abs_of_nonpos (by linarith), abs_of_neg (by linarith)]
        linarith
      · rw [abs_of_nonneg (by linarith), abs_of_pos (by linarith)]
        linarith
    exact ⟨hle.trans hlt.le, fun heq => absurd heq (hle.trans_lt hlt).ne⟩

theorem rp_least (h : OnFormat F w) (hw : x.real ≤ w) : roundedValue F .RP x ≤ w := by
  obtain ⟨k, hk⟩ := multiple_or_between hd hn h
  obtain ⟨-, hleast⟩ := rp_least_multiple (F := F) hd
  rcases hk with rfl | ⟨h1, h2⟩ | ⟨h1, h2⟩
  · exact hleast k hw
  · exact (hleast k h1).trans h2.le
  · linarith

theorem rm_greatest (h : OnFormat F w) (hw : w ≤ x.real) : w ≤ roundedValue F .RM x := by
  obtain ⟨k, hk⟩ := multiple_or_between hd hn h
  obtain ⟨-, hgreatest⟩ := rm_greatest_multiple (F := F) hd
  rcases hk with rfl | ⟨h1, h2⟩ | ⟨h1, h2⟩
  · exact hgreatest k hw
  · linarith
  · exact h1.le.trans (hgreatest k h2)

/-- A value of the format is rounded to itself. -/
theorem roundedValue_of_onFormat (m : RMode) (h : OnFormat F x.real) : roundedValue F m x = x.real := by
  obtain ⟨k, hk⟩ := multiple_or_between hd hn h
  have hk : x.real = k * 2 ^ quantum F x := by
    rcases hk with hk | ⟨h1, h2⟩ | ⟨h1, h2⟩
    · exact hk
    · exact absurd h1 (not_le.mpr h2)
    · exact absurd h2 (not_le.mpr h1)
  have hr := rounded_roundsTo hd F m
  rw [(eq_div_iff (zpow_pos two_pos _).ne').mpr hk.symm |>.symm] at hr
  rw [roundedValue, roundsTo_unique hr (roundsTo_self m k), hk]

/-- Toward zero, the rounded value is the largest in magnitude among the values not beyond the real. -/
theorem rz_largest (h : OnFormat F w) (hw : |w| ≤ |x.real|) : |w| ≤ |roundedValue F .RZ x| := by
  have hwabs := onFormat_abs h
  rcases rz_cases (F := F) hd with ⟨hx, hy, heq⟩ | ⟨hx, hy, heq⟩
  · rw [abs_of_nonneg hx] at hw
    rw [abs_of_nonneg hy, heq]
    exact rm_greatest hd hn hwabs hw
  · rw [abs_of_nonpos hx] at hw
    rw [abs_of_nonpos hy, heq]
    have := rp_least hd hn (onFormat_neg hwabs) (by linarith)
    linarith

end

/-! ### Exact results -/

/-- The sign of a value other than zero is that of its pattern. -/
theorem signBit_real_pattern {b : Word} (h : real F b ≠ 0) : signBit (real F b) = signOf F b := by
  have hpos : 0 < |real F b| := abs_pos.mpr h
  have hs := signOf_lt F b
  rcases (by omega : signOf F b = 0 ∨ signOf F b = 1) with hb | hb
  · rw [signBit, if_neg (by rw [real_of_sign_zero hb]; exact not_lt.mpr hpos.le), hb]
  · rw [signBit, if_pos (by rw [real_of_sign_one hb]; linarith), hb]

/-- A fraction is zero when its numerator is. -/
theorem real_ne_zero (hd : 0 < x.den) (hn : x.num ≠ 0) : x.real ≠ 0 :=
  div_ne_zero (by exact_mod_cast hn) (by exact_mod_cast hd.ne')

/-- Settles O26: a value of the format is rounded to itself, and its pattern is the only one. -/
theorem roundingExactWhenRepresentable : Obligations.RoundingExactWhenRepresentable := by
  intro F t m x b hd hn hb hx
  have hval : roundedValue F m x = real F b := by
    rw [roundedValue_of_onFormat hd hn m (hx ▸ onFormat_real F b), hx]
  rcases roundF_overflow_cases hd hn F t m with ⟨ho, -⟩ | ⟨-, hr⟩
  · exact absurd (greatest_lt_abs_of_overflows ho) (not_lt.mpr (hx ▸ abs_real_le_greatest hb))
  · have hreal : real F (roundF F t m x).1 = real F b := hr.value.trans hval
    have hsign : signOf F (roundF F t m x).1 = signOf F b := by
      rw [hr.sign, hx, signBit_real_pattern (hx ▸ real_ne_zero hd hn)]
    refine Prod.ext (eq_of_abs_real hr.finite hb hsign (congrArg _ hreal)) ?_
    rw [hr.exceptions, if_pos (hreal.trans hx.symm)]

/-! ### Rounding to nearest -/

theorem no_overflow_of_delivers (h : Delivers F t m x r) : r.2 &&& 0b00100 = 0 := by
  rw [h.exceptions]
  split_ifs <;> rfl

/-- Settles O27: beyond the tie the result is the infinity, else no value of the format is closer than the
rounded one. -/
theorem roundingToNearestIsNearest : Obligations.RoundingToNearestIsNearest := by
  intro F t x hd hn
  refine ⟨signOf_roundF hd hn F t .RNE, fun hbig => ?_, fun hsmall => ?_⟩
  · rcases roundF_overflow_cases hd hn F t .RNE with ⟨-, hr⟩ | ⟨ho, -⟩
    · rw [hr, signBit_real hd, ← fpInf_eq]
      rfl
    · exact absurd hbig ho
  · rcases roundF_overflow_cases hd hn F t .RNE with ⟨ho, -⟩ | ⟨-, hr⟩
    · exact absurd hsmall (not_lt.mpr ho)
    · refine ⟨no_overflow_of_delivers hr, hr.finite, fun y _ => ?_⟩
      obtain ⟨hle, htie⟩ := rne_nearest hd hn (onFormat_real F y)
      rw [hr.value, hr.parity]
      refine ⟨hle, fun heq hne => ?_⟩
      have := htie heq hne
      omega

/-! ### Directed rounding -/

section
variable (hd : 0 < x.den) (hn : x.num ≠ 0)
include hd hn

theorem rp_result (F : Fmt) (t : Tininess) :
    IsInfinite F (roundF F t .RP x).1 ∧ signOf F (roundF F t .RP x).1 = 0 ∧ (∀ y, IsFinite F y → real F y < x.real) ∨
      IsFinite F (roundF F t .RP x).1 ∧ x.real ≤ real F (roundF F t .RP x).1 ∧
        ∀ y, IsFinite F y → x.real ≤ real F y → real F (roundF F t .RP x).1 ≤ real F y := by
  have hmax := greatest_pos F
  have hbound : greatest F < 2 ^ (emaxOf F + 1) := emaxOf_eq F ▸ (greatest_lt_greatestTie F).trans (greatestTie_lt F)
  rcases roundF_overflow_cases hd hn F t .RP with ⟨ho | ho, hr⟩ | ⟨-, hr⟩
  · have hs : negative x = false := Bool.eq_false_iff.mpr fun h => by linarith [(negative_iff hd).mp h]
    rw [hr, hs]
    exact .inl ⟨(fpInf_infinite F false).1, (fpInf_infinite F false).2, fun y hy =>
      ((le_abs_self _).trans (abs_real_le_greatest hy)).trans_lt ho⟩
  · have hs : negative x = true := (negative_iff hd).mpr (by linarith)
    have hval : real F (fpMaxFin F true) = -greatest F := real_fpMaxFin F true
    rw [hr, hs]
    refine .inr ⟨(packs_fpMaxFin F true).finite, ?_, fun y hy _ => ?_⟩
    · exact (show x.real ≤ -greatest F by linarith).trans_eq hval.symm
    · exact hval.trans_le (neg_le_of_abs_le (abs_real_le_greatest hy))
  · rw [hr.value]
    exact .inr ⟨hr.finite, (rp_least_multiple hd).1, fun y _ hy => rp_least hd hn (onFormat_real F y) hy⟩

theorem rm_result (F : Fmt) (t : Tininess) :
    IsInfinite F (roundF F t .RM x).1 ∧ signOf F (roundF F t .RM x).1 = 1 ∧ (∀ y, IsFinite F y → x.real < real F y) ∨
      IsFinite F (roundF F t .RM x).1 ∧ real F (roundF F t .RM x).1 ≤ x.real ∧
        ∀ y, IsFinite F y → real F y ≤ x.real → real F y ≤ real F (roundF F t .RM x).1 := by
  have hmax := greatest_pos F
  have hbound : greatest F < 2 ^ (emaxOf F + 1) := emaxOf_eq F ▸ (greatest_lt_greatestTie F).trans (greatestTie_lt F)
  rcases roundF_overflow_cases hd hn F t .RM with ⟨ho | ho, hr⟩ | ⟨-, hr⟩
  · have hs : negative x = true := (negative_iff hd).mpr (by linarith)
    rw [hr, hs]
    exact .inl ⟨(fpInf_infinite F true).1, (fpInf_infinite F true).2, fun y hy =>
      ho.trans_le (neg_le_of_abs_le (abs_real_le_greatest hy))⟩
  · have hs : negative x = false := Bool.eq_false_iff.mpr fun h => by linarith [(negative_iff hd).mp h]
    have hval : real F (fpMaxFin F false) = greatest F := real_fpMaxFin F false
    rw [hr, hs]
    refine .inr ⟨(packs_fpMaxFin F false).finite, ?_, fun y hy _ => ?_⟩
    · exact hval.trans_le (show greatest F ≤ x.real by linarith)
    · exact ((le_abs_self _).trans (abs_real_le_greatest hy)).trans_eq hval.symm
  · rw [hr.value]
    exact .inr ⟨hr.finite, (rm_greatest_multiple hd).1, fun y _ hy => rm_greatest hd hn (onFormat_real F y) hy⟩

theorem rz_result (F : Fmt) (t : Tininess) :
    IsFinite F (roundF F t .RZ x).1 ∧ |real F (roundF F t .RZ x).1| ≤ |x.real| ∧
      0 ≤ real F (roundF F t .RZ x).1 * x.real ∧
      ∀ y, IsFinite F y → |real F y| ≤ |x.real| → |real F y| ≤ |real F (roundF F t .RZ x).1| := by
  rcases roundF_overflow_cases hd hn F t .RZ with ⟨ho, hr⟩ | ⟨-, hr⟩
  · have hmax := greatest_pos F
    have hval : real F (fpMaxFin F (negative x)) = withSign (negative x) (greatest F) := real_fpMaxFin F _
    have habs : |real F (fpMaxFin F (negative x))| = greatest F := by rw [hval, abs_withSign, abs_of_pos hmax]
    rw [hr]
    refine ⟨(packs_fpMaxFin F _).finite, habs.trans_le (greatest_lt_abs_of_overflows ho).le, ?_, fun y hy _ =>
      (abs_real_le_greatest hy).trans_eq habs.symm⟩
    show 0 ≤ real F (fpMaxFin F (negative x)) * x.real
    rw [hval, real_eq_withSign x, withSign_mul_withSign]
    positivity
  · rw [hr.value]
    exact ⟨hr.finite, (rz_not_beyond hd).1, (rz_not_beyond hd).2, fun y _ hy =>
      rz_largest hd hn (onFormat_real F y) hy⟩

end

/-- Settles O28, mode by mode. -/
theorem directedRoundingBrackets : Obligations.DirectedRoundingBrackets := fun F t _ hd hn =>
  ⟨fun m _ => signOf_roundF hd hn F t m, rp_result hd hn F t, rm_result hd hn F t, rz_result hd hn F t⟩

end Sys2Proof.Proofs.Nearest
end

section
/-! PROOF. The exceptions of a rounding (40_fp_arith.md R1004 to R1007; O29). -/

namespace Sys2Proof.Proofs.Exceptions

open Sys2Proof.Machine Sys2Proof.Spec Sys2Proof.Proofs.IntRounding Sys2Proof.Proofs.Packing Sys2Proof.Proofs.Rounding
  Sys2Proof.Proofs.Overflow

variable {F : Fmt} {t : Tininess} {m : RMode} {x : Exact} {r : Word × ExcSet}

/-! ### Tininess -/

/-- Before rounding: the magnitude is below `2^emin` (40_fp_arith.md R1007). -/
theorem isTiny_before_iff (hd : 0 < x.den) : isTiny F .before m x = true ↔ |x.real| < 2 ^ eminOf F := by
  have h := pow2Le_iff F.emin x.num.natAbs x.den hd
  rw [← abs_real_eq_div, ← eminOf_eq] at h
  rw [← not_le, ← h, isTiny, tiny, Bool.not_eq_true', Bool.not_eq_true, eminOf_eq]

/-- After rounding: the magnitude rounded to `p` bits, whatever the exponent, is below `2^emin`
(40_fp_arith.md R1007). -/
theorem isTiny_after_iff (hd : 0 < x.den) (hn : x.num ≠ 0) {e n : Int} (hlo : (2 : ℚ) ^ e ≤ |x.real|)
    (hhi : |x.real| < 2 ^ (e + 1)) (h : RoundsTo m (x.real / 2 ^ (e - precOf F + 1)) n) :
    isTiny F .after m x = true ↔ |(n : ℚ)| * 2 ^ (e - precOf F + 1) < 2 ^ eminOf F := by
  have he : exponent x = e := by
    rw [abs_real_eq_div] at hlo hhi
    exact floorLog2_unique _ _ (Int.natAbs_pos.mpr hn) hd e hlo hhi
  have hr := rintAt_roundsTo m (negative x) x.num.natAbs hd (e - precOf F + 1)
  rw [← withSign_div, ← real_eq_withSign] at hr
  have hk : n.natAbs = rintAt m (negative x) x.num.natAbs x.den (e - precOf F + 1) := by
    rw [roundsTo_unique h hr, natAbs_withSign]
  have hp := pow2Le_iff (eminOf F - (e - precOf F + 1)) n.natAbs 1 one_pos
  rw [Nat.cast_one, div_one, zpow_sub₀ two_ne_zero, div_le_iff₀ (zpow_pos two_pos _)] at hp
  rw [← not_le, abs_cast, ← hp, isTiny, tiny, he, hk, precOf_eq, eminOf_eq, Bool.not_eq_true', Bool.not_eq_true]

/-! ### The exception set -/

/-- Settles O29: an overflow raises O and I, a delivered value raises I when it is not the real, and U with it when the
real is tiny. -/
theorem roundingExceptionsAreTrue : Obligations.RoundingExceptionsAreTrue := by
  intro F t m x hd hn
  have hbig : (2 : ℚ) ^ (emaxOf F + 1) ≤ |x.real| → Overflows F m x.real := fun h =>
    overflows_of_le_abs m (emaxOf_eq F ▸ h)
  rcases roundF_overflow_cases hd hn F t m with ⟨ho, hr⟩ | ⟨ho, hr⟩
  · rw [hr]
    have hO : (0b00101 : ExcSet).getLsbD 2 = true := by decide
    have hv : (0b00101 : ExcSet) &&& 0b11000 = 0 := by decide
    refine ⟨hv, iff_of_true hO ho, fun _ => ⟨rfl, fun y hy => ?_⟩, fun _ => hO, fun h => nomatch hO.symm.trans h⟩
    exact ((le_abs_self _).trans (abs_real_le_greatest hy)).trans_lt (greatest_lt_abs_of_overflows ho)
  · have hexc := hr.exceptions
    have hv : (roundF F t m x).2 &&& 0b11000 = 0 := by rw [hexc]; split_ifs <;> rfl
    have hO : (roundF F t m x).2.getLsbD 2 = false := by rw [hexc]; split_ifs <;> rfl
    have hI : (roundF F t m x).2.getLsbD 0 = true ↔ real F (roundF F t m x).1 ≠ x.real := by
      rw [hexc]
      split_ifs with h <;> simp [h]
    have hU : (roundF F t m x).2.getLsbD 1 = true → (roundF F t m x).2.getLsbD 0 = true := by
      rw [hexc]
      split_ifs <;> decide
    have hUtiny (hinexact : (roundF F t m x).2.getLsbD 0 = true) :
        (roundF F t m x).2.getLsbD 1 = true ↔ isTiny F t m x = true := by
      rw [hexc, if_neg (hI.mp hinexact)]
      cases isTiny F t m x <;> decide
    rw [hO]
    refine ⟨hv, iff_of_false Bool.false_ne_true ho, nofun, fun h => absurd (hbig h) ho, fun _ =>
      ⟨hr.finite, hI, hU, fun ht hinexact => ?_, fun ht hinexact e n hlo hhi hrounds => ?_⟩⟩
    · subst ht
      rw [hUtiny hinexact, isTiny_before_iff hd]
    · subst ht
      rw [hUtiny hinexact, isTiny_after_iff hd hn hlo hhi hrounds]

end Sys2Proof.Proofs.Exceptions
end

section
/-! PROOF. The arithmetic cores on finite operands: one rounding of the exact real (O30), and the sign of a zero
(O31). -/

namespace Sys2Proof.Proofs.Cores

open Sys2Proof.Machine Sys2Proof.Spec Sys2Proof.Proofs.Patterns Sys2Proof.Proofs.Special Sys2Proof.Proofs.Values
  Sys2Proof.Proofs.IntRounding Sys2Proof.Proofs.Packing Sys2Proof.Proofs.Rounding Sys2Proof.Proofs.Overflow

variable {F : Fmt} {t : Tininess} {m : RMode} {a b c : Word} {x y : Exact}

/-! ### Rounding depends on the real alone -/

/-- Equal fractions of one sign are rounded alike. -/
theorem roundMag_congr {s : Bool} {n d n' d' : Nat} (hn : 0 < n) (hd : 0 < d) (hd' : 0 < d')
    (h : (n : ℚ) / d = n' / d') : roundMag F t m s n d = roundMag F t m s n' d' := by
  have hlog : floorLog2 n' d' = floorLog2 n d := by
    obtain ⟨hlo, hhi⟩ := floorLog2_spec n d hn hd
    have hn' : 0 < n' := by
      have hpos : (0 : ℚ) < n / d := div_pos (by exact_mod_cast hn) (by exact_mod_cast hd)
      rw [h, div_pos_iff_of_pos_right (by exact_mod_cast hd')] at hpos
      exact_mod_cast hpos
    exact floorLog2_unique n' d' hn' hd' _ (h ▸ hlo) (h ▸ hhi)
  have hrint (g : Int) : rintAt m s n' d' g = rintAt m s n d g := by
    have h1 := rintAt_roundsTo m s n hd g
    rw [h] at h1
    have := roundsTo_unique (rintAt_roundsTo m s n' hd' g) h1
    rw [← natAbs_withSign s (rintAt m s n' d' g), this, natAbs_withSign]
  have hinexact (g : Int) : inexactAt n' d' g = inexactAt n d g := by
    rw [Bool.eq_iff_iff, inexactAt_iff m s n' hd', inexactAt_iff m s n hd, hrint, h]
  have hle (k : Int) : pow2Le k n' d' = pow2Le k n d := by
    rw [Bool.eq_iff_iff, pow2Le_iff k n' d' hd', pow2Le_iff k n d hd, h]
  unfold roundMag tiny
  simp only [hlog, hrint, hinexact, hle]

/-- `RoundF` of a nonzero real is the same for whatever fraction stands for it. -/
theorem roundF_congr (hx : 0 < x.den) (hn : x.num ≠ 0) (hy : 0 < y.den) (h : x.real = y.real) :
    roundF F t m x = roundF F t m y := by
  have hsign : negative x = negative y := by rw [Bool.eq_iff_iff, negative_iff hx, negative_iff hy, h]
  have habs := congrArg abs h
  rw [abs_real_eq_div, abs_real_eq_div] at habs
  have := roundMag_congr (F := F) (t := t) (m := m) (s := negative x) (Int.natAbs_pos.mpr hn) hx hy habs
  exact this.trans (by rw [hsign]; rfl)

/-! ### The exact fractions of the cores -/

/-- The exact sum of two finite operands. -/
def sumOf (F : Fmt) (a b : Word) : Exact := (fpVal F a).add (fpVal F b)

/-- The exact product. -/
def productOf (F : Fmt) (a b : Word) : Exact := (fpVal F a).mul (fpVal F b)

/-- The exact quotient. -/
def quotientOf (F : Fmt) (a b : Word) : Exact := (fpVal F a).div (fpVal F b)

/-- The exact product and sum. -/
def fusedOf (F : Fmt) (a b c : Word) : Exact := (productOf F a b).add (fpVal F c)

theorem productOf_den_pos (F : Fmt) (a b : Word) : 0 < (productOf F a b).den :=
  Nat.mul_pos (fpVal_den_pos F a) (fpVal_den_pos F b)

theorem sumOf_den_pos (F : Fmt) (a b : Word) : 0 < (sumOf F a b).den :=
  Nat.mul_pos (fpVal_den_pos F a) (fpVal_den_pos F b)

theorem fusedOf_den_pos (F : Fmt) (a b c : Word) : 0 < (fusedOf F a b c).den :=
  Nat.mul_pos (productOf_den_pos F a b) (fpVal_den_pos F c)

theorem sumOf_real (F : Fmt) (a b : Word) : (sumOf F a b).real = real F a + real F b := by
  rw [sumOf, add_real _ _ (fpVal_den_pos F a) (fpVal_den_pos F b), fpVal_real, fpVal_real]

theorem productOf_real (F : Fmt) (a b : Word) : (productOf F a b).real = real F a * real F b := by
  rw [productOf, mul_real, fpVal_real, fpVal_real]

theorem quotientOf_real (F : Fmt) (a b : Word) : (quotientOf F a b).real = real F a / real F b := by
  rw [quotientOf, div_real, fpVal_real, fpVal_real]

theorem fusedOf_real (F : Fmt) (a b c : Word) : (fusedOf F a b c).real = real F a * real F b + real F c := by
  rw [fusedOf, add_real _ _ (productOf_den_pos F a b) (fpVal_den_pos F c), productOf_real, fpVal_real]

theorem num_eq_zero_iff (hd : 0 < x.den) : x.num = 0 ↔ x.real = 0 := by
  have hd' : (x.den : ℚ) ≠ 0 := by exact_mod_cast hd.ne'
  rw [Exact.real, div_eq_zero_iff, or_iff_left hd']
  exact_mod_cast Iff.rfl

theorem quotientOf_den_pos (h : real F b ≠ 0) : 0 < (quotientOf F a b).den := by
  rw [← fpVal_real, ne_eq, ← num_eq_zero_iff (fpVal_den_pos F b)] at h
  exact Nat.mul_pos (fpVal_den_pos F a) (Int.natAbs_pos.mpr h)

/-! ### The cores on finite operands -/

theorem isNaN_of_isFinite (h : IsFinite F a) : isNaN F a = false :=
  Bool.eq_false_iff.mpr (mt isNaN_iff.mp (not_isNan_of_isFinite h))

theorem isInf_of_isFinite (h : IsFinite F a) : isInf F a = false :=
  Bool.eq_false_iff.mpr (mt isInf_iff.mp (not_isInfinite_of_isFinite h))

section
variable (ha : IsFinite F a) (hb : IsFinite F b)
include ha hb

/-- Addition of finite operands (40_fp_arith.md R1011, R1013). -/
theorem addCore_of_finite : addCore F t m a b =
    if (sumOf F a b).num = 0 then
      if isZero F a && isZero F b && fpSign F a == fpSign F b then (a, 0) else (fpZero F (m == .RM), 0)
    else roundF F t m (sumOf F a b) := by
  simp only [addCore, isNaN_of_isFinite ha, isNaN_of_isFinite hb, isInf_of_isFinite ha, isInf_of_isFinite hb]
  rfl

/-- Multiplication of finite operands (40_fp_arith.md R1011, R1015). -/
theorem mulCore_of_finite : mulCore F t m a b =
    if (productOf F a b).num = 0 then (fpZero F (fpSign F a != fpSign F b), 0) else roundF F t m (productOf F a b) := by
  simp only [mulCore, isNaN_of_isFinite ha, isNaN_of_isFinite hb, isInf_of_isFinite ha, isInf_of_isFinite hb,
    Bool.and_false]
  rfl

/-- Division of a finite operand by a finite one that is not zero (40_fp_arith.md R1011, R1016). -/
theorem divCore_of_finite (hz : real F b ≠ 0) : divCore F t m a b =
    if real F a = 0 then (fpZero F (fpSign F a != fpSign F b), 0) else roundF F t m (quotientOf F a b) := by
  have hzb : isZero F b = false := Bool.eq_false_iff.mpr fun h => hz (real_eq_zero_iff.mpr (isZero_iff.mp h))
  simp only [divCore, isNaN_of_isFinite ha, isNaN_of_isFinite hb, isInf_of_isFinite ha, isInf_of_isFinite hb, hzb,
    Bool.and_false, real_eq_zero_iff, ← isZero_iff]
  rfl

/-- The fused form of finite operands (40_fp_arith.md R1011, R1017). -/
theorem fmaCore_of_finite (hc : IsFinite F c) : fmaCore F t m a b c =
    if (fusedOf F a b c).num = 0 then
      if (isZero F a || isZero F b) && isZero F c && (fpSign F a != fpSign F b) == fpSign F c then
        (fpZero F (fpSign F a != fpSign F b), 0)
      else (fpZero F (m == .RM), 0)
    else roundF F t m (fusedOf F a b c) := by
  simp only [fmaCore, isNaN_of_isFinite ha, isNaN_of_isFinite hb, isNaN_of_isFinite hc, isInf_of_isFinite ha,
    isInf_of_isFinite hb, isInf_of_isFinite hc, Bool.and_false]
  rfl

end

/-! ### One rounding of a nonzero result -/

/-- An exact fraction of the core and any other one of the same nonzero real. -/
theorem roundF_of_real (hx : 0 < x.den) (hn : x.num ≠ 0) (hy : 0 < y.den) (h : x.real = y.real) :
    y.num ≠ 0 ∧ roundF F t m y = roundF F t m x := by
  rw [ne_eq, num_eq_zero_iff hx, h, ← num_eq_zero_iff hy] at hn
  exact ⟨hn, roundF_congr hy hn hx h.symm⟩

theorem addCore_rounds (ha : IsFinite F a) (hb : IsFinite F b) (hx : 0 < x.den) (hn : x.num ≠ 0)
    (h : x.real = real F a + real F b) : addCore F t m a b = roundF F t m x := by
  obtain ⟨hsum, hr⟩ := roundF_of_real (F := F) (t := t) (m := m) hx hn (sumOf_den_pos F a b)
    (h.trans (sumOf_real F a b).symm)
  rw [addCore_of_finite ha hb, if_neg hsum, hr]

theorem mulCore_rounds (ha : IsFinite F a) (hb : IsFinite F b) (hx : 0 < x.den) (hn : x.num ≠ 0)
    (h : x.real = real F a * real F b) : mulCore F t m a b = roundF F t m x := by
  obtain ⟨hprod, hr⟩ := roundF_of_real (F := F) (t := t) (m := m) hx hn (productOf_den_pos F a b)
    (h.trans (productOf_real F a b).symm)
  rw [mulCore_of_finite ha hb, if_neg hprod, hr]

theorem divCore_rounds (ha : IsFinite F a) (hb : IsFinite F b) (hx : 0 < x.den) (hn : x.num ≠ 0) (hz : real F b ≠ 0)
    (h : x.real = real F a / real F b) : divCore F t m a b = roundF F t m x := by
  obtain ⟨-, hr⟩ := roundF_of_real (F := F) (t := t) (m := m) hx hn (quotientOf_den_pos hz)
    (h.trans (quotientOf_real F a b).symm)
  have hza : real F a ≠ 0 := fun h0 => by
    rw [h0, zero_div, ← num_eq_zero_iff hx] at h
    exact hn h
  rw [divCore_of_finite ha hb hz, if_neg hza, hr]

theorem fmaCore_rounds (ha : IsFinite F a) (hb : IsFinite F b) (hc : IsFinite F c) (hx : 0 < x.den) (hn : x.num ≠ 0)
    (h : x.real = real F a * real F b + real F c) : fmaCore F t m a b c = roundF F t m x := by
  obtain ⟨hfused, hr⟩ := roundF_of_real (F := F) (t := t) (m := m) hx hn (fusedOf_den_pos F a b c)
    (h.trans (fusedOf_real F a b c).symm)
  rw [fmaCore_of_finite ha hb hc, if_neg hfused, hr]

/-- Settles O30: each core rounds its exact fraction, and rounding depends on the real alone. -/
theorem arithmeticRoundsTheExactResult : Obligations.ArithmeticRoundsTheExactResult := by
  refine fun F t m a b c x ha hb hc hx hn => ⟨addCore_rounds ha hb hx hn, fun h => ?_, mulCore_rounds ha hb hx hn,
    divCore_rounds ha hb hx hn, fmaCore_rounds ha hb hc hx hn⟩
  rw [subCore_of_not_nan (not_isNan_of_isFinite ha) (not_isNan_of_isFinite hb)]
  exact addCore_rounds ha (isFinite_fpNeg hb) hx hn (by rw [h, real_fpNeg, sub_eq_add_neg])

/-! ### The sign of an exact zero -/

/-- The result is a zero of sign `k`, with no exception. -/
def IsZeroResult (F : Fmt) (r : Word × ExcSet) (k : Nat) : Prop :=
  r.2 = 0 ∧ IsFinite F r.1 ∧ real F r.1 = 0 ∧ signOf F r.1 = k

theorem isZeroResult_fpZero (F : Fmt) (s : Bool) : IsZeroResult F (fpZero F s, 0) s.toNat := by
  have h := packs_subnormal F s (Nat.two_pow_pos (F.prec - 1))
  exact ⟨rfl, h.finite, real_eq_zero_iff.mpr (by cases F <;> cases s <;> exact ⟨rfl, rfl⟩), h.sign⟩

/-- The zero whose sign the rounding mode gives: `-0` under RM (40_fp_arith.md R1011). -/
theorem isZeroResult_of_mode (F : Fmt) (m : RMode) :
    IsZeroResult F (fpZero F (m == .RM), 0) (if m = .RM then 1 else 0) := by
  have h := isZeroResult_fpZero F (m == .RM)
  cases m <;> exact h

/-- The zero of two addends: the common sign of two zeros, else by the rounding mode (40_fp_arith.md R1011). -/
theorem addCore_zero (ha : IsFinite F a) (hb : IsFinite F b) (h : real F a + real F b = 0) :
    IsZeroResult F (addCore F t m a b)
      (if real F a = 0 ∧ signOf F a = signOf F b then signOf F a else if m = .RM then 1 else 0) := by
  have hcommon : (isZero F a && isZero F b && fpSign F a == fpSign F b) = true ↔
      real F a = 0 ∧ signOf F a = signOf F b := by
    have hzb (h0 : real F a = 0) : real F b = 0 := by linarith
    simp only [Bool.and_eq_true, beq_iff_eq, isZero_iff, ← real_eq_zero_iff, fpSign_eq_iff]
    exact ⟨fun hall => ⟨hall.1.1, hall.2⟩, fun hall => ⟨⟨hall.1, hzb hall.1⟩, hall.2⟩⟩
  rw [← sumOf_real, ← num_eq_zero_iff (sumOf_den_pos F a b)] at h
  rw [addCore_of_finite ha hb, if_pos h]
  by_cases hc : real F a = 0 ∧ signOf F a = signOf F b
  · rw [if_pos (hcommon.mpr hc), if_pos hc]
    exact ⟨rfl, ha, hc.1, rfl⟩
  · rw [if_neg (mt hcommon.mp hc), if_neg hc]
    exact isZeroResult_of_mode F m

/-- The zero of a difference: that of the sum with the second operand negated (40_fp_arith.md R1014). -/
theorem subCore_zero (ha : IsFinite F a) (hb : IsFinite F b) (h : real F a - real F b = 0) :
    IsZeroResult F (subCore F t m a b)
      (if real F a = 0 ∧ signOf F a ≠ signOf F b then signOf F a else if m = .RM then 1 else 0) := by
  have hsign : signOf F a = signOf F (fpNeg F b) ↔ signOf F a ≠ signOf F b := by
    rw [ne_eq, ← fpSign_eq_iff, ← fpSign_eq_iff, fpSign_fpNeg]
    cases fpSign F a <;> cases fpSign F b <;> decide
  have hadd := addCore_zero (t := t) (m := m) ha (isFinite_fpNeg hb) (by rw [real_fpNeg]; linarith)
  rw [subCore_of_not_nan (not_isNan_of_isFinite ha) (not_isNan_of_isFinite hb)]
  simpa only [hsign] using hadd

/-- The zero of a product and an addend, by the sign of the product (40_fp_arith.md R1011). -/
theorem fmaCore_zero (ha : IsFinite F a) (hb : IsFinite F b) (hc : IsFinite F c)
    (h : real F a * real F b + real F c = 0) :
    IsZeroResult F (fmaCore F t m a b c)
      (if real F a * real F b = 0 ∧ (signOf F a + signOf F b) % 2 = signOf F c then signOf F c
        else if m = .RM then 1 else 0) := by
  have hcommon : ((isZero F a || isZero F b) && isZero F c && (fpSign F a != fpSign F b) == fpSign F c) = true ↔
      real F a * real F b = 0 ∧ (signOf F a + signOf F b) % 2 = signOf F c := by
    have hzc (h0 : real F a * real F b = 0) : real F c = 0 := by linarith
    simp only [Bool.and_eq_true, Bool.or_eq_true, beq_iff_eq, isZero_iff, ← real_eq_zero_iff,
      eq_comm (b := fpSign F c), fpSign_eq_bne_iff, ← mul_eq_zero]
    exact ⟨fun hall => ⟨hall.1.1, hall.2.symm⟩, fun hall => ⟨⟨hall.1, hzc hall.1⟩, hall.2.symm⟩⟩
  rw [← fusedOf_real, ← num_eq_zero_iff (fusedOf_den_pos F a b c)] at h
  rw [fmaCore_of_finite ha hb hc, if_pos h]
  by_cases hz : real F a * real F b = 0 ∧ (signOf F a + signOf F b) % 2 = signOf F c
  · rw [if_pos (hcommon.mpr hz), if_pos hz, ← hz.2, ← bne_fpSign_toNat]
    exact isZeroResult_fpZero F _
  · rw [if_neg (mt hcommon.mp hz), if_neg hz]
    exact isZeroResult_of_mode F m

/-- The zero of a product (40_fp_arith.md R1011). -/
theorem mulCore_zero (ha : IsFinite F a) (hb : IsFinite F b) (h : real F a * real F b = 0) :
    IsZeroResult F (mulCore F t m a b) ((signOf F a + signOf F b) % 2) := by
  rw [← productOf_real, ← num_eq_zero_iff (productOf_den_pos F a b)] at h
  rw [mulCore_of_finite ha hb, if_pos h, ← bne_fpSign_toNat]
  exact isZeroResult_fpZero F _

/-- The zero of a quotient (40_fp_arith.md R1011). -/
theorem divCore_zero (ha : IsFinite F a) (hb : IsFinite F b) (hz : real F b ≠ 0) (h : real F a = 0) :
    IsZeroResult F (divCore F t m a b) ((signOf F a + signOf F b) % 2) := by
  rw [divCore_of_finite ha hb hz, if_pos h, ← bne_fpSign_toNat]
  exact isZeroResult_fpZero F _

/-! ### The sign of a zero product or quotient -/

/-- A value is its magnitude with the sign bit of its pattern. -/
theorem real_eq_withSign_abs (F : Fmt) (a : Word) : real F a = withSign (fpSign F a) |real F a| := by
  have hs := signOf_eq F a
  cases h : fpSign F a <;> rw [h] at hs
  · exact real_of_sign_zero hs
  · exact real_of_sign_one hs

theorem signBit_withSign (s : Bool) {y : ℚ} (hy : 0 < y) : signBit (withSign s y) = s.toNat := by
  cases s
  · exact if_neg (not_lt.mpr hy.le)
  · exact if_pos (neg_lt_zero.mpr hy)

theorem signBit_mul (ha : real F a ≠ 0) (hb : real F b ≠ 0) :
    signBit (real F a * real F b) = (signOf F a + signOf F b) % 2 := by
  have heq : real F a * real F b = withSign (fpSign F a != fpSign F b) (|real F a| * |real F b|) := by
    rw [real_eq_withSign_abs F a, real_eq_withSign_abs F b, abs_withSign, abs_withSign, abs_abs, abs_abs]
    cases fpSign F a <;> cases fpSign F b <;> simp [withSign]
  rw [heq, signBit_withSign _ (mul_pos (abs_pos.mpr ha) (abs_pos.mpr hb)), bne_fpSign_toNat]

theorem signBit_div (ha : real F a ≠ 0) (hb : real F b ≠ 0) :
    signBit (real F a / real F b) = (signOf F a + signOf F b) % 2 := by
  have hsame : signBit (real F a / real F b) = signBit (real F a * real F b) := by
    have hneg : real F a / real F b < 0 ↔ real F a * real F b < 0 := by rw [div_neg_iff, mul_neg_iff]
    rw [signBit, signBit]
    simp only [hneg]
  rw [hsame, signBit_mul ha hb]

theorem not_isZero_nan (F : Fmt) : ¬IsZero F (nan F) := by cases F <;> exact fun h => absurd h.1 (by decide)

theorem not_isZero_infOf (F : Fmt) (k : Nat) : ¬IsZero F (infOf F k) := by
  have h : infOf F k = fpInf F (decide (k = 1)) := by
    rw [fpInf_eq]
    by_cases hk : k = 1 <;> simp [infOf, zeroOf, hk]
  exact h ▸ not_isZero_of_isInfinite (fpInf_infinite F _).1

theorem signOf_zeroOf (F : Fmt) {k : Nat} (hk : k < 2) : signOf F (zeroOf F k) = k := by
  obtain rfl | rfl : k = 0 ∨ k = 1 := by omega
  · cases F <;> rfl
  · cases F <;> rfl

section
variable (hpa : IsPattern F a) (hpb : IsPattern F b) (hna : ¬IsNan F a) (hnb : ¬IsNan F b)
include hpa hpb hna hnb

/-- A product that is a zero has the exclusive or of the signs (40_fp_arith.md R1011). -/
theorem signOf_mulCore_of_isZero (h : IsZero F (mulCore F t m a b).1) :
    signOf F (mulCore F t m a b).1 = (signOf F a + signOf F b) % 2 := by
  have hinf {c d : Word} (hc : IsInfinite F c) (hd : ¬IsNan F d) :
      ¬IsZero F (mulCore F t m c d).1 ∧ ¬IsZero F (mulCore F t m d c).1 := by
    by_cases hz : IsZero F d
    · obtain ⟨h1, h2⟩ := mulCore_inf_zero (t := t) (m := m) hc hz
      rw [h1, h2]
      exact ⟨not_isZero_nan F, not_isZero_nan F⟩
    · obtain ⟨h1, h2⟩ := mulCore_inf_nonzero (t := t) (m := m) hc hd hz
      rw [h1, h2]
      exact ⟨not_isZero_infOf F _, not_isZero_infOf F _⟩
  by_cases hia : IsInfinite F a
  · exact absurd h (hinf hia hnb).1
  by_cases hib : IsInfinite F b
  · exact absurd h (hinf hib hna).2
  have ha := isFinite_of_isNumber ⟨hpa, hna⟩ hia
  have hb := isFinite_of_isNumber ⟨hpb, hnb⟩ hib
  by_cases hz : real F a * real F b = 0
  · exact (mulCore_zero ha hb hz).2.2.2
  · obtain ⟨hza, hzb⟩ := mul_ne_zero_iff.mp hz
    have hd := productOf_den_pos F a b
    have hreal := productOf_real F a b
    have hn : (productOf F a b).num ≠ 0 := mt (num_eq_zero_iff hd).mp (hreal ▸ hz)
    rw [mulCore_of_finite ha hb, if_neg hn, signOf_roundF hd hn, hreal, signBit_mul hza hzb]

/-- A quotient that is a zero has the exclusive or of the signs (40_fp_arith.md R1011). -/
theorem signOf_divCore_of_isZero (h : IsZero F (divCore F t m a b).1) :
    signOf F (divCore F t m a b).1 = (signOf F a + signOf F b) % 2 := by
  by_cases hia : IsInfinite F a
  · by_cases hib : IsInfinite F b
    · rw [divCore_invalid (.inl ⟨hia, hib⟩)] at h
      exact absurd h (not_isZero_nan F)
    · rw [divCore_inf_left hia (isFinite_of_isNumber ⟨hpb, hnb⟩ hib)] at h
      exact absurd h (not_isZero_infOf F _)
  have ha := isFinite_of_isNumber ⟨hpa, hna⟩ hia
  by_cases hib : IsInfinite F b
  · rw [divCore_inf_right ha hib]
    exact signOf_zeroOf F (Nat.mod_lt _ two_pos)
  have hb := isFinite_of_isNumber ⟨hpb, hnb⟩ hib
  by_cases hzb : real F b = 0
  · rw [real_eq_zero_iff] at hzb
    by_cases hza : IsZero F a
    · rw [divCore_invalid (.inr ⟨hza, hzb⟩)] at h
      exact absurd h (not_isZero_nan F)
    · rw [divCore_by_zero ha hza hzb] at h
      exact absurd h (not_isZero_infOf F _)
  by_cases hza : real F a = 0
  · exact (divCore_zero ha hb hzb hza).2.2.2
  · have hd := quotientOf_den_pos (a := a) hzb
    have hreal := quotientOf_real F a b
    have hn : (quotientOf F a b).num ≠ 0 := mt (num_eq_zero_iff hd).mp (hreal ▸ div_ne_zero hza hzb)
    rw [divCore_of_finite ha hb hzb, if_neg hza, signOf_roundF hd hn, hreal, signBit_div hza hzb]

end

/-- Settles O31: the exact zeros core by core, and the zeros that a rounding or an infinite divisor gives. -/
theorem zeroResultsHaveTheRightSign : Obligations.ZeroResultsHaveTheRightSign :=
  ⟨fun _ _ _ _ _ _ ha hb hc => ⟨addCore_zero ha hb, subCore_zero ha hb, mulCore_zero ha hb, divCore_zero ha hb,
    fmaCore_zero ha hb hc⟩,
  fun _ _ _ _ _ hpa hpb hna hnb => ⟨fun he hf => signOf_mulCore_of_isZero hpa hpb hna hnb ⟨he, hf⟩,
    fun he hf => signOf_divCore_of_isZero hpa hpb hna hnb ⟨he, hf⟩⟩⟩

end Sys2Proof.Proofs.Cores
end

section
/-! PROOF. Comparisons (41_fp_compare_convert.md R1200, R1201): each relation follows the order of the extended reals
(O36). -/

namespace Sys2Proof.Proofs.Comparisons

open Sys2Proof.Machine Sys2Proof.Spec Sys2Proof.Proofs.Patterns Sys2Proof.Proofs.Values

variable {F : Fmt} {a b : Word}

/-- The relations that hold of a lesser number and a greater one, and of a greater one and a lesser one. -/
theorem relHolds_of_xLt (r : Rel) (h : XLt F a b) :
    (relHolds r (fpXVal F a) (fpXVal F b) = true ↔ r = .LT ∨ r = .LE ∨ r = .NE) ∧
      (relHolds r (fpXVal F b) (fpXVal F a) = true ↔ r = .GT ∨ r = .GE ∨ r = .NE) := by
  have h' := xLt_asymm h
  have hne : (fpXVal F a).eq (fpXVal F b) = false := Bool.eq_false_iff.mpr fun he => (fpXVal_eq_iff.mp he).1 h
  have hne' : (fpXVal F b).eq (fpXVal F a) = false := Bool.eq_false_iff.mpr fun he => (fpXVal_eq_iff.mp he).2 h
  cases r <;> simp [relHolds, fpXVal_lt_iff, hne, hne', h, h']

/-- The relations that hold of two equal numbers. -/
theorem relHolds_of_tie (r : Rel) (h1 : ¬XLt F a b) (h2 : ¬XLt F b a) :
    relHolds r (fpXVal F a) (fpXVal F b) = true ↔ r = .EQ ∨ r = .LE ∨ r = .GE := by
  cases r <;> simp [relHolds, fpXVal_lt_iff, fpXVal_eq_iff, h1, h2]

/-- Of finite patterns a relation holds exactly when it holds of their values. -/
theorem relHolds_iff_relOn (r : Rel) (ha : IsFinite F a) (hb : IsFinite F b) :
    relHolds r (fpXVal F a) (fpXVal F b) = true ↔ relOn r (real F a) (real F b) := by
  have hab := xLt_iff_of_isFinite ha hb
  have hba := xLt_iff_of_isFinite hb ha
  rcases lt_trichotomy (real F a) (real F b) with h | h | h
  · rw [(relHolds_of_xLt r (hab.mpr h)).1]
    cases r <;> simp [relOn, h, h.le, h.ne]
  · rw [relHolds_of_tie r (mt hab.mp h.not_lt) (mt hba.mp h.not_gt)]
    cases r <;> simp [relOn, h]
  · rw [(relHolds_of_xLt r (hba.mpr h)).2]
    cases r <;> simp [relOn, h, h.le, h.ne']

/-- Two numbers are compared without exception. -/
theorem fcmpCore_of_numbers (r : Rel) (sig : Bool) (ha : ¬IsNan F a) (hb : ¬IsNan F b) :
    fcmpCore F r sig a b = (if relHolds r (fpXVal F a) (fpXVal F b) then 1 else 0, 0) := by
  have hsa : ¬IsSignalling F a := fun h => ha h.1
  have hsb : ¬IsSignalling F b := fun h => hb h.1
  simp [fcmpCore, isNaN_iff, isSNaN_iff, ha, hb, hsa, hsb, excIf, excNone]

/-- A comparison of a lesser number and a greater one, in either order. -/
theorem fcmpCore_of_xLt (r : Rel) (sig : Bool) (ha : ¬IsNan F a) (hb : ¬IsNan F b) (h : XLt F a b) :
    fcmpCore F r sig a b = (if r = .LT ∨ r = .LE ∨ r = .NE then 1 else 0, 0) ∧
      fcmpCore F r sig b a = (if r = .GT ∨ r = .GE ∨ r = .NE then 1 else 0, 0) := by
  obtain ⟨hlt, hgt⟩ := relHolds_of_xLt r h
  simp only [fcmpCore_of_numbers r sig ha hb, fcmpCore_of_numbers r sig hb ha, hlt, hgt, and_self]

/-- A comparison of two equal numbers. -/
theorem fcmpCore_of_tie (r : Rel) (sig : Bool) (ha : ¬IsNan F a) (hb : ¬IsNan F b) (h1 : ¬XLt F a b)
    (h2 : ¬XLt F b a) : fcmpCore F r sig a b = (if r = .EQ ∨ r = .LE ∨ r = .GE then 1 else 0, 0) := by
  simp only [fcmpCore_of_numbers r sig ha hb, relHolds_of_tie r h1 h2]

/-- A set raised under a condition that the model decides. -/
theorem excIf_of_iff {c : Bool} {p : Prop} {_ : Decidable p} (h : c = true ↔ p) (e : ExcSet) :
    excIf c e = if p then e else 0 := if_congr h rfl rfl

/-- A NaN operand makes NE alone true; the signalling form raises V, the quiet form for a signalling NaN. -/
theorem fcmpCore_of_nan (r : Rel) (sig : Bool) (h : IsNan F a ∨ IsNan F b) :
    fcmpCore F r sig a b = (if r = .NE then 1 else 0, excIf (sig || (isSNaN F a || isSNaN F b)) excV) := by
  have hnan : (isNaN F a || isNaN F b) = true := by rwa [Bool.or_eq_true, isNaN_iff, isNaN_iff]
  cases sig <;> simp [fcmpCore, hnan]

/-- The positive infinity is above every other number (40_fp_arith.md R1003). -/
theorem xLt_positive_infinity (ha : IsInfinite F a) (hs : signOf F a = 0) (hb : ¬(IsInfinite F b ∧ signOf F b = 0)) :
    XLt F b a := ⟨hb, fun h => by omega, .inr (.inl ha)⟩

/-- The negative infinity is below every other number (40_fp_arith.md R1003). -/
theorem negative_infinity_xLt (ha : IsInfinite F a) (hs : signOf F a = 1) (hb : ¬(IsInfinite F b ∧ signOf F b = 1)) :
    XLt F a b := ⟨fun h => by omega, hb, .inl ha⟩

/-- Infinities of one sign are equal (40_fp_arith.md R1003). -/
theorem not_xLt_of_infinities (ha : IsInfinite F a) (hb : IsInfinite F b) (hs : signOf F a = signOf F b) :
    ¬XLt F a b := by
  rintro ⟨hpos, hneg, -⟩
  have hsa : signOf F a ≠ 0 := fun h => hpos ⟨ha, h⟩
  have hsb : signOf F b ≠ 1 := fun h => hneg ⟨hb, h⟩
  have := signOf_lt F a
  omega

/-- Settles O36: finite values by their order, infinities by their signs, and the unordered operands. -/
theorem comparisonsDecideTheRelation : Obligations.ComparisonsDecideTheRelation := by
  refine fun F r sig a b => ⟨fun ha hb => ?_, fun ha hb => ?_, fun ha hb hs => ?_, fun ha hb hs => ?_, fun h => ?_⟩
  · have hrel := relHolds_iff_relOn r ha hb
    rw [fcmpCore_of_numbers r sig (not_isNan_of_isFinite ha) (not_isNan_of_isFinite hb)]
    exact ⟨rfl, fun h => if_pos (hrel.mpr h), fun h => if_neg (mt hrel.mp h)⟩
  · have hna := not_isNan_of_isInfinite ha
    have hnb := not_isNan_of_isFinite hb
    have hib := not_isInfinite_of_isFinite hb
    by_cases hs : signOf F a = 0
    · rw [if_pos hs, if_pos hs]
      exact (fcmpCore_of_xLt r sig hnb hna (xLt_positive_infinity ha hs fun h => hib h.1)).symm
    · have hsa := signOf_lt F a
      rw [if_neg hs, if_neg hs]
      exact fcmpCore_of_xLt r sig hna hnb (negative_infinity_xLt ha (by omega) fun h => hib h.1)
  · exact fcmpCore_of_tie r sig (not_isNan_of_isInfinite ha) (not_isNan_of_isInfinite hb)
      (not_xLt_of_infinities ha hb hs) (not_xLt_of_infinities hb ha hs.symm)
  · have hsb := signOf_lt F b
    have hlt : XLt F b a := xLt_positive_infinity ha (by omega) fun h => by omega
    exact (fcmpCore_of_xLt r sig (not_isNan_of_isInfinite hb) (not_isNan_of_isInfinite ha) hlt).symm
  · rw [fcmpCore_of_nan r sig h]
    exact ⟨rfl, excIf_of_iff (by rw [Bool.or_eq_true, Bool.or_eq_true, isSNaN_iff, isSNaN_iff]) excV⟩

end Sys2Proof.Proofs.Comparisons
end

section
/-! PROOF. Conversions between the formats (41_fp_compare_convert.md R1202; O37). -/

namespace Sys2Proof.Proofs.Conversions

open Sys2Proof.Machine Sys2Proof.Spec Sys2Proof.Proofs.Patterns Sys2Proof.Proofs.Values Sys2Proof.Proofs.IntRounding
  Sys2Proof.Proofs.Packing Sys2Proof.Proofs.Rounding Sys2Proof.Proofs.Overflow Sys2Proof.Proofs.Nearest
  Sys2Proof.Proofs.Cores Sys2Proof.Proofs.Comparisons

variable {F Fs Fd : Fmt} {t : Tininess} {m : RMode} {a : Word} {x : Exact}

/-! ### Exact rounding -/

/-- The result of an operation is finite and exact: it has the value and raises nothing. -/
structure IsExact (F : Fmt) (r : Word × ExcSet) (v : ℚ) (s : Nat) : Prop where
  finite : IsFinite F r.1
  value : real F r.1 = v
  sign : signOf F r.1 = s
  exceptions : r.2 = 0

/-- A value of the format that is not beyond the greatest one is rounded to itself without exception, in every mode. -/
theorem roundF_isExact (hd : 0 < x.den) (hn : x.num ≠ 0) (hv : OnFormat F x.real) (hle : |x.real| ≤ greatest F) :
    IsExact F (roundF F t m x) x.real (signBit x.real) := by
  rcases roundF_overflow_cases hd hn F t m with ⟨ho, -⟩ | ⟨-, hr⟩
  · exact absurd (greatest_lt_abs_of_overflows ho) (not_lt.mpr hle)
  · have hval := hr.value.trans (roundedValue_of_onFormat hd hn m hv)
    exact ⟨hr.finite, hval, hr.sign, hr.exceptions.trans (if_pos hval)⟩

theorem fpZero_isExact (F : Fmt) (s : Bool) : IsExact F (fpZero F s, 0) 0 s.toNat := by
  obtain ⟨he, hf, hv, hs⟩ := isZeroResult_fpZero F s
  exact ⟨hf, hv, hs, he⟩

/-! ### Finite operands and infinities -/

theorem fcvtCore_of_infinite (h : IsInfinite Fs a) : fcvtCore Fd Fs t m a = (fpInf Fd (fpSign Fs a), 0) := by
  simp [fcvtCore, isNaN_iff, isInf_iff, not_isNan_of_isInfinite h, h, excNone]

theorem fcvtCore_of_zero (h : IsZero Fs a) : fcvtCore Fd Fs t m a = (fpZero Fd (fpSign Fs a), 0) := by
  simp [fcvtCore, isNaN_iff, isInf_iff, isZero_iff, not_isNan_of_isZero h, not_isInfinite_of_isZero h, h, excNone]

theorem fcvtCore_of_nonzero (h : IsFinite Fs a) (hz : ¬IsZero Fs a) :
    fcvtCore Fd Fs t m a = roundF Fd t m (fpVal Fs a) := by
  simp [fcvtCore, isNaN_iff, isInf_iff, isZero_iff, not_isNan_of_isFinite h, not_isInfinite_of_isFinite h, hz]

/-- The numerator of the exact fraction of a pattern that is no zero. -/
theorem fpVal_num_ne_zero (hz : ¬IsZero F a) : (fpVal F a).num ≠ 0 := by
  rwa [ne_eq, num_eq_zero_iff (fpVal_den_pos F a), fpVal_real, real_eq_zero_iff]

/-- Every value of binary32 is one of binary64: more bits, and a lower last place. -/
theorem onFormat_widen {w : ℚ} (h : OnFormat .S w) : OnFormat .D w := by
  obtain ⟨k, u, hw, hk, hu⟩ := h
  have hprec : (2 : ℚ) ^ Fmt.S.prec ≤ 2 ^ Fmt.D.prec := pow_le_pow_right₀ one_le_two (by decide)
  have hlast : Fmt.D.emin - Fmt.D.prec + 1 ≤ Fmt.S.emin - Fmt.S.prec + 1 := by decide
  exact ⟨k, u, hw, hk.trans_le hprec, hlast.trans hu⟩

theorem greatest_single_le_double : greatest .S ≤ greatest .D :=
  calc greatest .S ≤ 2 ^ (Fmt.S.emax + 1) := ((greatest_lt_greatestTie .S).trans (greatestTie_lt .S)).le
    _ ≤ 2 ^ Fmt.D.emax := zpow_le_zpow_right₀ one_le_two (by decide)
    _ ≤ greatest .D := two_pow_emax_le_greatest .D

/-- Widening is exact (41_fp_compare_convert.md R1202). -/
theorem fcvtCore_widen_isExact (h : IsFinite .S a) :
    IsExact .D (fcvtCore .D .S t m a) (real .S a) (signOf .S a) := by
  by_cases hz : IsZero .S a
  · rw [fcvtCore_of_zero hz, real_eq_zero_iff.mpr hz, signOf_eq]
    exact fpZero_isExact .D _
  · have hreal := fpVal_real .S a
    have hle := (abs_real_le_greatest h).trans greatest_single_le_double
    rw [fcvtCore_of_nonzero h hz, ← signBit_real_pattern (mt real_eq_zero_iff.mp hz), ← hreal]
    exact roundF_isExact (fpVal_den_pos .S a) (fpVal_num_ne_zero hz) (hreal ▸ onFormat_widen (onFormat_real .S a))
      (hreal ▸ hle)

/-- Narrowing is one rounding of the value, whatever fraction stands for it (41_fp_compare_convert.md R1202). -/
theorem fcvtCore_rounds (ha : IsFinite Fs a) (hd : 0 < x.den) (hn : x.num ≠ 0) (hx : x.real = real Fs a) :
    fcvtCore Fd Fs t m a = roundF Fd t m x := by
  have hz : ¬IsZero Fs a := fun h => real_ne_zero hd hn (hx.trans (real_eq_zero_iff.mpr h))
  rw [fcvtCore_of_nonzero ha hz]
  exact (roundF_of_real hd hn (fpVal_den_pos Fs a) (hx.trans (fpVal_real Fs a).symm)).2

/-! ### NaN operands -/

/-- A field of a disjunction is the disjunction of the fields. -/
theorem or_field (x y k n : Nat) : (x ||| y) / 2 ^ k % 2 ^ n = x / 2 ^ k % 2 ^ n ||| y / 2 ^ k % 2 ^ n := by
  rw [Nat.or_div_two_pow, Nat.or_mod_two_pow]

theorem toNat_fpQuiet (F : Fmt) (a : Word) : (fpQuiet F a).toNat = a.toNat ||| 2 ^ (F.fracBits - 1) := by
  rw [fpQuiet_eq, BitVec.toNat_or]
  cases F <;> rfl

theorem quietOf_fpQuiet (F : Fmt) (a : Word) : quietOf F (fpQuiet F a) = 1 := by
  rw [quietOf_eq, Bool.toNat_eq_one]
  cases F <;> simp [quietBit, fpQuiet, Fmt.fracBits]

/-- The quiet bit is the top bit of the fraction; the sign and the exponent are above it (40_fp_arith.md R1008). -/
theorem fpQuiet_fields (F : Fmt) (a : Word) :
    signOf F (fpQuiet F a) = signOf F a ∧ expOf F (fpQuiet F a) = expOf F a ∧
      fracOf F (fpQuiet F a) = fracOf F a ||| 2 ^ (F.fracBits - 1) := by
  cases F <;> simp only [signOf, expOf, fracOf, toNat_fpQuiet] <;> refine ⟨?_, ?_, Nat.or_mod_two_pow⟩
  · exact (or_field _ _ 31 1).trans (Nat.or_zero _)
  · exact (or_field _ _ 23 8).trans (Nat.or_zero _)
  · exact (or_field _ _ 63 1).trans (Nat.or_zero _)
  · exact (or_field _ _ 52 11).trans (Nat.or_zero _)

theorem nanFraction_lt (Fs Fd : Fmt) (a : Word) : nanFraction Fs Fd (fracOf Fs a) < 2 ^ Fd.fracBits := by
  have h := fracOf_lt Fs a
  cases Fs <;> cases Fd <;> simp [nanFraction, Fmt.fracBits, Fmt.prec] at h ⊢ <;> omega

/-- The conversion of a NaN: its fields, and V when it is signalling (41_fp_compare_convert.md R1202). -/
theorem fcvtCore_of_nan (h : IsNan Fs a) :
    expOf Fd (fcvtCore Fd Fs t m a).1 = topExp Fd ∧
      fracOf Fd (fcvtCore Fd Fs t m a).1 = nanFraction Fs Fd (fracOf Fs a) ||| 2 ^ (Fd.fracBits - 1) ∧
      quietOf Fd (fcvtCore Fd Fs t m a).1 = 1 ∧ signOf Fd (fcvtCore Fd Fs t m a).1 = signOf Fs a ∧
      (fcvtCore Fd Fs t m a).2 = excIf (isSNaN Fs a) excV := by
  obtain ⟨-, hs, he, hf⟩ := fpPack_fields Fd (fpSign Fs a) le_rfl (nanFraction_lt Fs Fd a)
  obtain ⟨hqs, hqe, hqf⟩ :=
    fpQuiet_fields Fd (fpPack Fd (fpSign Fs a) (topExp Fd) (nanFraction Fs Fd (fracOf Fs a)))
  rw [fcvtCore, if_pos (isNaN_iff.mpr h), fpFrac_eq, expMax_eq]
  exact ⟨hqe.trans he, hqf.trans (by rw [hf]), quietOf_fpQuiet Fd _, (hqs.trans hs).trans (signOf_eq Fs a).symm, rfl⟩

/-- Settles O37: widening is exact, narrowing rounds, and infinities, NaNs and zeros keep their kind and sign. -/
theorem wideningConversionIsExact : Obligations.WideningConversionIsExact := by
  refine fun t m a => ⟨fun h => ?_, fun Fs Fd h => ?_, fun Fs Fd h => ?_, fun h => ?_, fun h => ?_, fun ha hz => ?_,
    fun x ha hd hn hx => fcvtCore_rounds ha hd hn hx⟩
  · obtain ⟨hf, hv, hs, he⟩ := fcvtCore_widen_isExact (t := t) (m := m) h
    exact ⟨hf, hv, hs, he⟩
  · rw [fcvtCore_of_infinite h, signOf_eq Fs]
    exact ⟨(fpInf_infinite Fd _).1, (fpInf_infinite Fd _).2, rfl⟩
  · obtain ⟨he, hf, hq, hs, hexc⟩ := fcvtCore_of_nan (Fd := Fd) (t := t) (m := m) h
    refine ⟨⟨he, ?_⟩, hq, hs, hexc.trans (excIf_of_iff isSNaN_iff excV)⟩
    rw [hf]
    exact fun h0 => absurd (Nat.or_eq_zero_iff.mp h0).2 (Nat.two_pow_pos _).ne'
  · obtain ⟨-, hf, -⟩ := fcvtCore_of_nan (Fd := .D) (t := t) (m := m) h
    rw [hf, ← Nat.shiftLeft_eq, Nat.shiftLeft_or_distrib, Nat.shiftLeft_eq]
    rfl
  · obtain ⟨-, hf, -⟩ := fcvtCore_of_nan (Fd := .S) (t := t) (m := m) h
    exact hf
  · rw [real_eq_zero_iff] at hz
    rw [fcvtCore_of_zero hz, signOf_eq .D]
    exact isZeroResult_fpZero .S _

end Sys2Proof.Proofs.Conversions
end

section
/-! PROOF. Conversions between floating point and integers (41_fp_compare_convert.md R1203 to R1205; O38, O39). -/

namespace Sys2Proof.Proofs.IntegerConversions

open Sys2Proof.Machine Sys2Proof.Spec Sys2Proof.Proofs.Patterns Sys2Proof.Proofs.Values Sys2Proof.Proofs.IntRounding
  Sys2Proof.Proofs.Packing Sys2Proof.Proofs.Rounding Sys2Proof.Proofs.Overflow Sys2Proof.Proofs.Nearest
  Sys2Proof.Proofs.Cores Sys2Proof.Proofs.Comparisons Sys2Proof.Proofs.Conversions

variable {F : Fmt} {t : Tininess} {m : RMode} {a : Word} {x : Exact} {iw : Nat} {n : Int}

theorem ofInt_real (n : Int) : (Exact.ofInt n).real = n := by simp [Exact.ofInt, Exact.real]

/-- The model compares an integer with the value of a pattern. -/
theorem ofInt_eq_fpVal_iff : (Exact.ofInt n).eq (fpVal F a) = true ↔ (n : ℚ) = real F a := by
  rw [eq_real _ _ one_pos (fpVal_den_pos F a), ofInt_real, fpVal_real]

/-! ### Float to integer -/

/-- The value of a finite pattern, rounded to an integer by the model: the magnitude, then the sign
(41_fp_compare_convert.md R1204). -/
def intOf (F : Fmt) (m : RMode) (a : Word) : Int :=
  withSign (fpSign F a) (rint m (fpSign F a) (fpVal F a).num.natAbs (fpVal F a).den : Int)

/-- It is the value of the pattern rounded in the mode. -/
theorem intOf_roundsTo (F : Fmt) (m : RMode) (a : Word) : RoundsTo m (real F a) (intOf F m a) := by
  have h := rint_roundsTo m (fpSign F a) (fpVal F a).num.natAbs (fpVal_den_pos F a)
  rwa [← abs_real_eq_div, fpVal_real, ← real_eq_withSign_abs] at h

/-- An integer delivered in the signed range of `iw` bits: the nearer bound with V beyond it, else itself with I
when it is not the value (41_fp_compare_convert.md R1204). -/
def saturated (iw : Nat) (n : Int) (inexact : Bool) : Int × ExcSet :=
  if intMax iw < n then (intMax iw, excV)
  else if n < intMin iw then (intMin iw, excV)
  else (n, excIf inexact excI)

/-- Zero is in every signed range. -/
theorem saturated_zero (iw : Nat) : saturated iw 0 false = (0, 0) := by
  have hp : (0 : Int) < 2 ^ (iw - 1) := by positivity
  rw [saturated, if_neg (by unfold intMax; omega), if_neg (by unfold intMin; omega)]
  rfl

/-- Of a finite pattern the conversion delivers the rounded value, saturated. The model answers a zero before it rounds,
with the same result. -/
theorem ftintCore_of_finite (iw : Nat) (m : RMode) (h : IsFinite F a) :
    ftintCore F iw m a = saturated iw (intOf F m a) (!(Exact.ofInt (intOf F m a)).eq (fpVal F a)) := by
  have hcase : ftintCore F iw m a =
      if isZero F a then (0, 0) else saturated iw (intOf F m a) (!(Exact.ofInt (intOf F m a)).eq (fpVal F a)) := by
    simp only [ftintCore, isNaN_of_isFinite h, isInf_of_isFinite h]
    rfl
  rw [hcase]
  split_ifs with hz
  · have hr := intOf_roundsTo F m a
    have hreal := real_eq_zero_iff.mpr (isZero_iff.mp hz)
    rw [hreal, ← Int.cast_zero] at hr
    have hint := roundsTo_unique hr (roundsTo_self m 0)
    have heq : (Exact.ofInt (intOf F m a)).eq (fpVal F a) = true := by
      rw [ofInt_eq_fpVal_iff, hreal, hint, Int.cast_zero]
    rw [heq, hint]
    exact (saturated_zero iw).symm
  · rfl

/-- Settles O38: the rounded integer is unique, so it is the one that the model delivers. -/
theorem floatToIntegerRoundsAsNamed : Obligations.FloatToIntegerRoundsAsNamed := by
  refine fun F iw m a n _ => ⟨fun ha hn => ?_, fun hi => ?_, fun hnan => ?_⟩
  · have hn : RoundsTo m (real F a) n := by cases m <;> exact hn
    have hexact : (!(Exact.ofInt n).eq (fpVal F a)) = true ↔ (n : ℚ) ≠ real F a := by
      rw [Bool.not_eq_true', ← Bool.not_eq_true, ofInt_eq_fpVal_iff]
    rw [ftintCore_of_finite iw m ha, roundsTo_unique (intOf_roundsTo F m a) hn, saturated, excIf_of_iff hexact, ite_not]
    rfl
  · rw [ftintCore, if_neg (mt isNaN_iff.mp (not_isNan_of_isInfinite hi)), if_pos (isInf_iff.mpr hi)]
    exact Prod.ext (if_congr fpSign_iff rfl rfl) rfl
  · rw [ftintCore, if_pos (isNaN_iff.mpr hnan)]
    rfl

/-! ### Integer to float -/

/-- `RoundF` of a nonzero integer, for whatever fraction stands for it (41_fp_compare_convert.md R1205). -/
theorem ffintCore_rounds (hn : n ≠ 0) (hd : 0 < x.den) (hx : x.real = n) : ffintCore F t m n = roundF F t m x := by
  rw [ffintCore, if_neg hn]
  exact roundF_congr one_pos hn hd ((ofInt_real n).trans hx.symm)

/-- An integer of magnitude at most `2^p` is a value of the format: of `p` bits, or the power itself. -/
theorem onFormat_int (h : n.natAbs ≤ 2 ^ F.prec) : OnFormat F n := by
  have hlast : F.emin - F.prec + 1 ≤ 0 := by cases F <;> decide
  rcases h.lt_or_eq with hlt | heq
  · exact ⟨n, 0, by rw [zpow_zero, mul_one], by rw [abs_cast]; exact_mod_cast hlt, hlast⟩
  · have hpow : OnFormat F (2 ^ F.prec) := by
      refine ⟨2 ^ (F.prec - 1), 1, ?_, ?_, hlast.trans zero_le_one⟩
      · rw [zpow_one, Int.cast_pow, Int.cast_ofNat, pow_sub_one_mul (Nat.one_le_iff_ne_zero.mp (prec_pos F))]
      · rw [Int.cast_pow, Int.cast_ofNat, abs_of_pos (by positivity)]
        exact pow_lt_pow_right₀ one_lt_two (Nat.sub_lt (prec_pos F) one_pos)
    rcases Int.natAbs_eq n with hn | hn <;> rw [hn, heq] <;> push_cast
    · exact hpow
    · exact onFormat_neg hpow

theorem two_pow_prec_le_greatest (F : Fmt) : (2 : ℚ) ^ F.prec ≤ greatest F := by
  refine le_trans ?_ (two_pow_emax_le_greatest F)
  rw [← zpow_natCast]
  exact zpow_le_zpow_right₀ one_le_two (by cases F <;> decide)

/-- An integer of magnitude at most `2^p` converts exactly. -/
theorem ffintCore_isExact (h : n.natAbs ≤ 2 ^ F.prec) : IsExact F (ffintCore F t m n) n (signBit n) := by
  by_cases hn : n = 0
  · subst hn
    exact fpZero_isExact F false
  · have hreal := ofInt_real n
    have hle : |(n : ℚ)| ≤ greatest F := by
      refine le_trans ?_ (two_pow_prec_le_greatest F)
      rw [abs_cast]
      exact_mod_cast h
    rw [ffintCore, if_neg hn, ← hreal]
    exact roundF_isExact one_pos hn (hreal ▸ onFormat_int h) (hreal ▸ hle)

/-- Settles O39: zero, one rounding of the integer, and the integers that the format holds. -/
theorem integerToFloatRoundsTheInteger : Obligations.IntegerToFloatRoundsTheInteger := by
  refine fun F t m n => ⟨fun hn => ?_, fun x hn hd hx => ffintCore_rounds hn hd hx, fun h => ?_⟩
  · rw [ffintCore, if_pos hn, fpZero_eq]
    rfl
  · have h : n.natAbs ≤ 2 ^ F.prec := by cases F <;> exact h
    obtain ⟨hf, hv, -, he⟩ := ffintCore_isExact (t := t) (m := m) h
    exact ⟨hf, hv, he⟩

end Sys2Proof.Proofs.IntegerConversions
end

section
/-! PROOF. What a SIMD command that completes gives lane by lane: the plain-number readings of a lane are the model's,
and packed lanes are read back (00_scope.md R14 to R16, 10_state.md R53, 42_simd_lanewise.md R1400, R1401). -/

namespace Sys2Proof.Proofs.LaneReadings

open Sys2Proof.Machine Sys2Proof.Spec

variable {W : Nat} {σ : Sign}

/-! ### Readings of a lane -/

theorem laneU_eq (W : Nat) (V : Vec) (k : Nat) : laneU W V k = (lane W V k).toNat := by
  rw [laneU, lane_toNat]

theorem laneS_eq (hW : 0 < W) (V : Vec) (k : Nat) : laneS W V k = (lane W V k).toInt := by
  obtain ⟨w, rfl⟩ : ∃ w, W = w + 1 := ⟨W - 1, (Nat.sub_add_cancel hW).symm⟩
  have hhalf : ((lane (w + 1) V k).toNat : Int) < 2 ^ w ↔ 2 * (lane (w + 1) V k).toNat < 2 ^ (w + 1) := by
    rw [Nat.pow_succ']
    exact_mod_cast (Nat.mul_lt_mul_left two_pos).symm
  rw [laneS, laneU_eq, BitVec.toInt_eq_toNat_cond, Nat.add_sub_cancel]
  push_cast
  exact if_congr hhalf rfl rfl

/-- The reading of R15, written from the spec, is the model's. -/
theorem laneOf_eq (σ : Sign) (hW : 0 < W) (V : Vec) (k : Nat) : laneOf σ W V k = ext σ (lane W V k) := by
  cases σ with
  | S => exact laneS_eq hW V k
  | U => exact laneU_eq W V k

/-! ### The values of `W` bits -/

theorem ext_sat (σ : Sign) (hW : 0 < W) (n : Int) : ext σ (sat σ W n) = clamp σ W n := by
  cases σ with
  | S => exact satS_toInt W hW n
  | U => exact satU_toNat W n

/-- Saturation is the pattern of the clamped value. -/
theorem sat_eq_bits_clamp (σ : Sign) (W : Nat) (n : Int) : sat σ W n = bits W (clamp σ W n) := by
  cases σ <;> rfl

/-- A value in the range of its sign, which is one that `clamp` keeps, is read back exactly from its pattern. -/
theorem ext_bits (hW : 0 < W) {n : Int} (hn : clamp σ W n = n) : ext σ (bits W n) = n := by
  have h := ext_sat σ hW n
  rwa [sat_eq_bits_clamp, hn] at h

/-- What a lane reads is in the range of its sign. -/
theorem clamp_ext (σ : Sign) (x : BitVec W) : clamp σ W (ext σ x) = ext σ x := by
  cases σ with
  | S =>
    have hlo := BitVec.le_toInt x
    have hhi := BitVec.toInt_lt (x := x)
    simp only [clamp, ext_S]
    omega
  | U =>
    have hhi : (x.toNat : Int) < 2 ^ W := by exact_mod_cast x.isLt
    simp only [clamp, ext_U]
    omega

/-- The range of a sign is an interval. -/
theorem clamp_eq_self_of_between {a b n : Int} (ha : clamp σ W a = a) (hb : clamp σ W b = b) (hlo : min a b ≤ n)
    (hhi : n ≤ max a b) : clamp σ W n = n := by
  cases σ <;> simp only [clamp] at * <;> omega

/-- A non-negative number below `2^W` is in the unsigned range. -/
theorem clamp_U_eq_self {n : Int} (h0 : 0 ≤ n) (h1 : n < 2 ^ W) : clamp .U W n = n := by
  simp only [clamp]
  omega

/-- The distance of two lanes fits `W` bits as an unsigned number (42_simd_lanewise.md R1405). -/
theorem abs_ext_sub_lt (σ : Sign) (a b : BitVec W) : |ext σ a - ext σ b| < 2 ^ W := by
  rw [abs_sub_lt_iff]
  cases σ with
  | S =>
    have ha := BitVec.le_two_mul_toInt (x := a)
    have hb := BitVec.le_two_mul_toInt (x := b)
    have ha' := BitVec.two_mul_toInt_lt (x := a)
    have hb' := BitVec.two_mul_toInt_lt (x := b)
    simp only [ext_S]
    omega
  | U =>
    have ha : (a.toNat : Int) < 2 ^ W := by exact_mod_cast a.isLt
    have hb : (b.toNat : Int) < 2 ^ W := by exact_mod_cast b.isLt
    simp only [ext_U]
    omega

/-! ### Commands that complete -/

/-- The lane widths of the SIMD commands (10_state.md R53). -/
abbrev LaneWidth (W : Nat) : Prop := W = 8 ∨ W = 16 ∨ W = 32 ∨ W = 64 ∨ W = 128

theorem LaneWidth.pos (h : LaneWidth W) : 0 < W := by omega

section
variable {i : Instr} {s : State} {f : Nat → BitVec W} (hl : s.cfg.legal = true) (hW : LaneWidth W)
  (hx : exec i s = .next (respondVec s (packLanes W (s.lanes W) f)))
include hl hW

theorem lanes_mul_of_legal : s.lanes W * W = s.cfg.vlen := lanes_mul s W (vlen_of_legal _ hl) hW

theorem lanes_mul_le : s.lanes W * W ≤ 256 := by
  have hv := vlen_of_legal _ hl
  rw [lanes_mul_of_legal hl hW]
  omega

theorem packLanes_lt_vlen (f : Nat → BitVec W) : (packLanes W (s.lanes W) f).toNat < 2 ^ s.cfg.vlen := by
  rw [← lanes_mul_of_legal hl hW]
  exact packLanes_toNat_lt W _ f (lanes_mul_le hl hW)

include hx

/-- A command that packs the lanes `f` completes, changes nothing else, and `VR` has these lanes (R1400, R1401). -/
theorem completes_of_packLanes : ∃ t, exec i s = .next t ∧ Answered s t (ok t.resp.vr 0) ∧ SameUnit s t ∧
    t.resp.vr.toNat < 2 ^ s.cfg.vlen ∧ ∀ k < s.cfg.vlen / W, lane W t.resp.vr k = f k :=
  ⟨_, hx, ⟨rfl, rfl, rfl, rfl, rfl, rfl, rfl, rfl⟩, ⟨rfl, rfl, rfl, rfl⟩, packLanes_lt_vlen hl hW f,
    fun k hk => lane_packLanes W _ f k hk (lanes_mul_le hl hW)⟩

/-- A command that packs lanes whose unsigned readings are `g` modulo `2^W`. -/
theorem gives_of_packLanes {g : Nat → Int} (hg : ∀ k, ((f k).toNat : Int) = g k % 2 ^ W) : Gives i s W g := by
  obtain ⟨t, ht, hans, hsame, hlt, hlane⟩ := completes_of_packLanes hl hW hx
  exact ⟨t, ht, hans, hsame, hlt, fun k hk => by rw [laneU_eq, hlane k hk, hg]⟩

/-- A command that packs lanes whose readings by `σ` are `g`. -/
theorem givesExactly_of_packLanes {g : Nat → Int} (hg : ∀ k, ext σ (f k) = g k) : GivesExactly i s W σ g := by
  obtain ⟨t, ht, hans, hsame, hlt, hlane⟩ := completes_of_packLanes hl hW hx
  exact ⟨t, ht, hans, hsame, hlt, fun k hk => by rw [laneOf_eq σ hW.pos, hlane k hk, hg]⟩

end

section
variable {i : Instr} {s : State} (hl : s.cfg.legal = true) (hW : LaneWidth W)
include hl hW

/-- A wrapping command of two vectors: `g` says what its lanes are before the reduction modulo `2^W`. -/
theorem gives_lanewise2 {f : BitVec W → BitVec W → BitVec W} (hx : exec i s = lanewise2 W f s) (g : Int → Int → Int)
    (hf : ∀ a b, ((f a b).toNat : Int) = g (ext σ a) (ext σ b) % 2 ^ W) :
    Gives i s W fun k => g (laneOf σ W s.req.va k) (laneOf σ W s.req.vb k) := by
  simp only [laneOf_eq σ hW.pos]
  exact gives_of_packLanes hl hW hx fun k => hf _ _

/-- A wrapping command that accumulates into `VC`. -/
theorem gives_lanewise3 {f : BitVec W → BitVec W → BitVec W → BitVec W} (hx : exec i s = lanewise3 W f s)
    (g : Int → Int → Int → Int) (hf : ∀ c a b, ((f c a b).toNat : Int) = g c.toNat (ext σ a) (ext σ b) % 2 ^ W) :
    Gives i s W fun k => g (laneU W s.req.vc k) (laneOf σ W s.req.va k) (laneOf σ W s.req.vb k) := by
  simp only [laneU_eq, laneOf_eq σ hW.pos]
  exact gives_of_packLanes hl hW hx fun k => hf _ _ _

/-- A command of two vectors whose lanes, read by `τ`, are exactly `g` of the lanes read by `σ`. -/
theorem givesExactly_lanewise2 {τ : Sign} {f : BitVec W → BitVec W → BitVec W} (hx : exec i s = lanewise2 W f s)
    (g : Int → Int → Int) (hf : ∀ a b, ext τ (f a b) = g (ext σ a) (ext σ b)) :
    GivesExactly i s W τ fun k => g (laneOf σ W s.req.va k) (laneOf σ W s.req.vb k) := by
  simp only [laneOf_eq σ hW.pos]
  exact givesExactly_of_packLanes hl hW hx fun k => hf _ _

end

end Sys2Proof.Proofs.LaneReadings
end

section
/-! PROOF. The lane-wise sums, differences, averages and distances (42_simd_lanewise.md R1402 to R1405; O40 to O43). -/

namespace Sys2Proof.Proofs.Lanewise

open Sys2Proof.Machine Sys2Proof.Spec Sys2Proof.Proofs.LaneReadings

variable {W : Nat}

/-! ### What the lane functions give -/

/-- `vadd` (R1402). -/
theorem addLane_toNat (a b : BitVec W) : ((addLane W a b).toNat : Int) = (ext .U a + ext .U b) % 2 ^ W := bits_toNat W _

/-- `vsub` (R1402). -/
theorem subLane_toNat (a b : BitVec W) : ((subLane W a b).toNat : Int) = (ext .U a - ext .U b) % 2 ^ W := bits_toNat W _

/-- `vsadd` (R1403). -/
theorem ext_saddLane (σ : Sign) (hW : 0 < W) (a b : BitVec W) :
    ext σ (saddLane σ W a b) = clamp σ W (ext σ a + ext σ b) := ext_sat σ hW _

/-- `vssub` (R1403). -/
theorem ext_ssubLane (σ : Sign) (hW : 0 < W) (a b : BitVec W) :
    ext σ (ssubLane σ W a b) = clamp σ W (ext σ a - ext σ b) := ext_sat σ hW _

/-- `vavg` (R1404): the halved sum lies between the lanes, so it is in their range. -/
theorem ext_avgLane (σ : Sign) (hW : 0 < W) (a b : BitVec W) :
    ext σ (avgLane σ W a b) = ⌊((ext σ a + ext σ b : Int) : ℚ) / 2⌋ := by
  have hfloor := Rat.floor_intCast_div_natCast (ext σ a + ext σ b) 2
  have hn := clamp_eq_self_of_between (n := (ext σ a + ext σ b) / 2) (clamp_ext σ a) (clamp_ext σ b)
    (by omega) (by omega)
  exact (ext_bits hW hn).trans hfloor.symm

/-- `vavgr` (R1404): the sum and one, halved, lies between the lanes too. -/
theorem ext_avgrLane (σ : Sign) (hW : 0 < W) (a b : BitVec W) :
    ext σ (avgrLane σ W a b) = ⌊((ext σ a + ext σ b + 1 : Int) : ℚ) / 2⌋ := by
  have hfloor := Rat.floor_intCast_div_natCast (ext σ a + ext σ b + 1) 2
  have hn := clamp_eq_self_of_between (n := (ext σ a + ext σ b + 1) / 2) (clamp_ext σ a) (clamp_ext σ b)
    (by omega) (by omega)
  exact (ext_bits hW hn).trans hfloor.symm

/-- `vabsd` (R1405): exact as an unsigned number. -/
theorem ext_absdLane (σ : Sign) (hW : 0 < W) (a b : BitVec W) : ext .U (absdLane σ W a b) = |ext σ a - ext σ b| := by
  rw [absdLane, Int.natCast_natAbs]
  exact ext_bits hW (clamp_U_eq_self (abs_nonneg _) (abs_ext_sub_lt σ a b))

/-- `vabsdacc` (R1405): the accumulation wraps. -/
theorem absdaccLane_toNat (σ : Sign) (c a b : BitVec W) :
    ((absdaccLane σ W c a b).toNat : Int) = ((c.toNat : Int) + |ext σ a - ext σ b|) % 2 ^ W := by
  rw [absdaccLane, bits_toNat, Int.natCast_natAbs]

/-! ### The commands -/

/-- Settles O40: each lane is the pattern of the exact sum or difference. -/
theorem wrappingLanes : Obligations.WrappingLanes := by
  refine fun s hl => ⟨fun p hp => ?_, fun p hp => ?_⟩
  · obtain ⟨hW, hx⟩ : LaneWidth p.2 ∧ exec p.1 s = lanewise2 p.2 (addLane p.2) s := by
      fin_cases hp <;> exact ⟨by decide, rfl⟩
    exact gives_lanewise2 hl hW hx (fun x y => x + y) addLane_toNat
  · obtain ⟨hW, hx⟩ : LaneWidth p.2 ∧ exec p.1 s = lanewise2 p.2 (subLane p.2) s := by
      fin_cases hp <;> exact ⟨by decide, rfl⟩
    exact gives_lanewise2 hl hW hx (fun x y => x - y) subLane_toNat

/-- Settles O41: saturation, read back, is the clamped value. -/
theorem saturatingLanes : Obligations.SaturatingLanes := by
  refine fun s hl => ⟨fun p hp => ?_, fun p hp => ?_⟩
  · obtain ⟨hW, hx⟩ : LaneWidth p.2.1 ∧ exec p.1 s = lanewise2 p.2.1 (saddLane p.2.2 p.2.1) s := by
      fin_cases hp <;> exact ⟨by decide, rfl⟩
    exact givesExactly_lanewise2 hl hW hx (fun x y => clamp _ _ (x + y)) (ext_saddLane _ hW.pos)
  · obtain ⟨hW, hx⟩ : LaneWidth p.2.1 ∧ exec p.1 s = lanewise2 p.2.1 (ssubLane p.2.2 p.2.1) s := by
      fin_cases hp <;> exact ⟨by decide, rfl⟩
    exact givesExactly_lanewise2 hl hW hx (fun x y => clamp _ _ (x - y)) (ext_ssubLane _ hW.pos)

/-- Settles O42: the halved sum fits the lane, and the floor of the half is integer division. -/
theorem averageLanes : Obligations.AverageLanes := by
  refine fun s hl => ⟨fun p hp => ?_, fun p hp => ?_⟩
  · obtain ⟨hW, hx⟩ : LaneWidth p.2.1 ∧ exec p.1 s = lanewise2 p.2.1 (avgLane p.2.2 p.2.1) s := by
      fin_cases hp <;> exact ⟨by decide, rfl⟩
    exact givesExactly_lanewise2 hl hW hx (fun x y => ⌊((x + y : Int) : ℚ) / 2⌋) (ext_avgLane _ hW.pos)
  · obtain ⟨hW, hx⟩ : LaneWidth p.2.1 ∧ exec p.1 s = lanewise2 p.2.1 (avgrLane p.2.2 p.2.1) s := by
      fin_cases hp <;> exact ⟨by decide, rfl⟩
    exact givesExactly_lanewise2 hl hW hx (fun x y => ⌊((x + y + 1 : Int) : ℚ) / 2⌋) (ext_avgrLane _ hW.pos)

/-- Settles O43: the distance fits `W` unsigned bits, and its accumulation wraps. -/
theorem absoluteDifferenceLanes : Obligations.AbsoluteDifferenceLanes := by
  refine fun s hl => ⟨fun p hp => ?_, fun p hp => ?_⟩
  · obtain ⟨hW, hx⟩ : LaneWidth p.2.1 ∧ exec p.1 s = lanewise2 p.2.1 (absdLane p.2.2 p.2.1) s := by
      fin_cases hp <;> exact ⟨by decide, rfl⟩
    exact givesExactly_lanewise2 hl hW hx (fun x y => |x - y|) (ext_absdLane _ hW.pos)
  · obtain ⟨hW, hx⟩ : LaneWidth p.2.1 ∧ exec p.1 s = lanewise3 p.2.1 (absdaccLane p.2.2 p.2.1) s := by
      fin_cases hp <;> exact ⟨by decide, rfl⟩
    exact gives_lanewise3 hl hW hx (fun z x y => z + |x - y|) (absdaccLane_toNat _)

end Sys2Proof.Proofs.Lanewise
end

section
/-! PROOF. The lane-wise minimum and maximum, of two vectors and against the immediate (43_simd_minmax.md R1500, R1501;
O44, O45). -/

namespace Sys2Proof.Proofs.MinMax

open Sys2Proof.Machine Sys2Proof.Spec Sys2Proof.Proofs.Responses Sys2Proof.Proofs.LaneReadings

variable {W : Nat}

/-! ### What the lane functions give -/

/-- `vmin` (R1500): the lane chosen reads as the lesser value. -/
theorem ext_minLane (σ : Sign) (a b : BitVec W) : ext σ (minLane σ W a b) = min (ext σ a) (ext σ b) := by
  rw [minLane, min_def, apply_ite (ext σ)]

/-- `vmax` (R1500): the lane chosen reads as the greater value. -/
theorem ext_maxLane (σ : Sign) (a b : BitVec W) : ext σ (maxLane σ W a b) = max (ext σ a) (ext σ b) := by
  rw [maxLane, max_comm, max_def, apply_ite (ext σ)]

/-- A lane is the pattern of its reading, so its unsigned reading is any reading modulo `2^W`. -/
theorem toNat_eq_ext_emod (σ : Sign) (x : BitVec W) : (x.toNat : Int) = ext σ x % 2 ^ W := by
  have hx : bits W (ext σ x) = x := by
    cases σ with
    | S => exact BitVec.ofInt_toInt
    | U => exact by rw [ext_U, bits, BitVec.ofInt_natCast, BitVec.ofNat_toNat, BitVec.setWidth_eq]
  rw [← bits_toNat, hx]

/-! ### The immediate -/

theorem immInRange_iff (σ : Sign) (imm : Word) : immInRange σ imm = true ↔
    (σ = .S → -16 ≤ imm.toInt ∧ imm.toInt ≤ 15) ∧ (σ = .U → 0 ≤ imm.toInt ∧ imm.toInt ≤ 31) := by
  cases σ <;> simp [immInRange]

/-- The lanes are wide enough for every immediate in range: its broadcast pattern reads as the immediate (R1501). -/
theorem ext_bits_imm (hW : LaneWidth W) {σ : Sign} {imm : Word} (hr : immInRange σ imm = true) :
    ext σ (bits W imm.toInt) = imm.toInt := by
  have hhalf : (2 : Int) ^ 7 ≤ 2 ^ (W - 1) := pow_le_pow_right₀ one_le_two (by omega)
  have hfull : (2 : Int) ^ 8 ≤ 2 ^ W := pow_le_pow_right₀ one_le_two (by omega)
  obtain ⟨hS, hU⟩ := (immInRange_iff σ imm).mp hr
  refine ext_bits hW.pos ?_
  cases σ with
  | S =>
    obtain ⟨hlo, hhi⟩ := hS rfl
    simp only [clamp]
    omega
  | U =>
    obtain ⟨hlo, hhi⟩ := hU rfl
    simp only [clamp]
    omega

section
variable {σ : Sign} {i : Instr} {s : State} {f : BitVec W → BitVec W → BitVec W}
  (hx : exec i s = lanewiseImm σ W f s)
include hx

/-- An immediate in range is broadcast to every lane. -/
theorem gives_lanewiseImm (hl : s.cfg.legal = true) (hW : LaneWidth W) (g : Int → Int → Int)
    (hf : ∀ a b, ext σ (f a b) = g (ext σ a) (ext σ b)) (hr : immInRange σ s.req.imm = true) :
    Gives i s W fun k => g (laneOf σ W s.req.va k) s.req.imm.toInt := by
  rw [lanewiseImm, if_pos hr] at hx
  simp only [laneOf_eq σ hW.pos]
  exact gives_of_packLanes hl hW hx fun k => by rw [toNat_eq_ext_emod σ, hf, ext_bits_imm hW hr]

/-- An immediate out of range raises ILLEGAL_IMM. -/
theorem raises_lanewiseImm (hr : ¬immInRange σ s.req.imm = true) : Raises i s 3 s.req.imm := by
  rw [lanewiseImm, if_neg hr] at hx
  exact ⟨_, hx, respond_answered s s.fcsr s.asid s.tlb s.rr _, ⟨rfl, rfl, rfl, rfl⟩⟩

/-- A command of a vector and the immediate: `g` of the lane and the immediate in range, a fault otherwise (R1501). -/
theorem lanewiseImm_cases (hl : s.cfg.legal = true) (hW : LaneWidth W) (g : Int → Int → Int)
    (hf : ∀ a b, ext σ (f a b) = g (ext σ a) (ext σ b)) :
    ((σ = .S → -16 ≤ s.req.imm.toInt ∧ s.req.imm.toInt ≤ 15) →
      (σ = .U → 0 ≤ s.req.imm.toInt ∧ s.req.imm.toInt ≤ 31) →
      Gives i s W fun k => g (laneOf σ W s.req.va k) s.req.imm.toInt) ∧
    ((σ = .S ∧ (s.req.imm.toInt < -16 ∨ 15 < s.req.imm.toInt) ∨
      σ = .U ∧ (s.req.imm.toInt < 0 ∨ 31 < s.req.imm.toInt)) → Raises i s 3 s.req.imm) := by
  refine ⟨fun hS hU => gives_lanewiseImm hx hl hW g hf ((immInRange_iff _ _).mpr ⟨hS, hU⟩),
    fun hout => raises_lanewiseImm hx fun hr => ?_⟩
  obtain ⟨hS, hU⟩ := (immInRange_iff _ _).mp hr
  rcases hout with ⟨hσ, hout⟩ | ⟨hσ, hout⟩
  · have := hS hσ
    omega
  · have := hU hσ
    omega

end

/-! ### The commands -/

/-- Settles O44: the lane chosen reads as the lesser or the greater value. -/
theorem minMaxLanes : Obligations.MinMaxLanes := by
  refine fun s hl => ⟨fun p hp => ?_, fun p hp => ?_⟩
  · obtain ⟨hW, hx⟩ : LaneWidth p.2.1 ∧ exec p.1 s = lanewise2 p.2.1 (minLane p.2.2 p.2.1) s := by
      fin_cases hp <;> exact ⟨by decide, rfl⟩
    exact givesExactly_lanewise2 hl hW hx min (ext_minLane _)
  · obtain ⟨hW, hx⟩ : LaneWidth p.2.1 ∧ exec p.1 s = lanewise2 p.2.1 (maxLane p.2.2 p.2.1) s := by
      fin_cases hp <;> exact ⟨by decide, rfl⟩
    exact givesExactly_lanewise2 hl hW hx max (ext_maxLane _)

/-- Settles O45: an immediate in range is a lane like any other, and one out of range faults. -/
theorem immediateMinMaxLanes : Obligations.ImmediateMinMaxLanes := by
  refine fun s hl => ⟨fun p hp => ?_, fun p hp => ?_⟩
  · obtain ⟨hW, hx⟩ : LaneWidth p.2.1 ∧ exec p.1 s = lanewiseImm p.2.2 p.2.1 (minLane p.2.2 p.2.1) s := by
      fin_cases hp <;> exact ⟨by decide, rfl⟩
    exact lanewiseImm_cases hx hl hW min (ext_minLane _)
  · obtain ⟨hW, hx⟩ : LaneWidth p.2.1 ∧ exec p.1 s = lanewiseImm p.2.2 p.2.1 (maxLane p.2.2 p.2.1) s := by
      fin_cases hp <;> exact ⟨by decide, rfl⟩
    exact lanewiseImm_cases hx hl hW max (ext_maxLane _)

end Sys2Proof.Proofs.MinMax
end

section
/-! PROOF. What a widening SIMD command gives lane by lane: lanes of double width, each from an even or odd lane of `VA`
and of `VB` read with a sign of its own, and accumulated or not (44_simd_multiply.md R1603). -/

namespace Sys2Proof.Proofs.WideningLanes

open Sys2Proof.Machine Sys2Proof.Spec Sys2Proof.Proofs.LaneReadings

section
variable {W : Nat} {i : Instr} {s : State} {sa sb : Sign} {f : Int → Int → Int} (hl : s.cfg.legal = true)
  (hW : LaneWidth (2 * W))
include hl hW

/-- A widening command gives `f` of its two source lanes. -/
theorem gives_widen {ha hb : Half} (hx : exec i s = widen W ha hb sa sb f s) :
    Gives i s (2 * W) fun k => f (laneOf sa W s.req.va (ha.index k)) (laneOf sb W s.req.vb (hb.index k)) := by
  have hpos : 0 < W := Nat.pos_of_mul_pos_left hW.pos
  simp only [laneOf_eq _ hpos]
  exact gives_of_packLanes hl hW hx fun k => bits_toNat _ _

/-- An accumulating widening command gives `f` of the wide lane of `VC` and the product of its two source lanes. -/
theorem gives_widenAcc {h : Half} (hx : exec i s = widenAcc W h sa sb f s) :
    Gives i s (2 * W) fun k => f (laneU (2 * W) s.req.vc k)
      (laneOf sa W s.req.va (h.index k) * laneOf sb W s.req.vb (h.index k)) := by
  have hpos : 0 < W := Nat.pos_of_mul_pos_left hW.pos
  simp only [laneU_eq, laneOf_eq _ hpos]
  exact gives_of_packLanes hl hW hx fun k => bits_toNat _ _

end

end Sys2Proof.Proofs.WideningLanes
end

section
/-! PROOF. The multiplies: low and high half, accumulated, and at double width (44_simd_multiply.md R1600 to R1604; O46,
O47). -/

namespace Sys2Proof.Proofs.Multiply

open Sys2Proof.Machine Sys2Proof.Spec Sys2Proof.Proofs.LaneReadings Sys2Proof.Proofs.WideningLanes

variable {W : Nat}

/-! ### What the lane functions give -/

/-- `vmul` (R1600). -/
theorem mulLane_toNat (a b : BitVec W) : ((mulLane W a b).toNat : Int) = (ext .U a * ext .U b) % 2 ^ W := bits_toNat W _

/-- `vmuh` (R1601): dropping the low half of the product is the floor of a division. -/
theorem muhLane_toNat (σ : Sign) (a b : BitVec W) :
    ((muhLane σ W a b).toNat : Int) = ⌊((ext σ a * ext σ b : Int) : ℚ) / 2 ^ W⌋ % 2 ^ W := by
  have hfloor := Rat.floor_intCast_div_natCast (ext σ a * ext σ b) (2 ^ W)
  push_cast at hfloor ⊢
  rw [muhLane, bits_toNat, hfloor]

/-- `vmadd` (R1602). -/
theorem maddLane_toNat (c a b : BitVec W) :
    ((maddLane W c a b).toNat : Int) = (c.toNat + ext .U a * ext .U b) % 2 ^ W := bits_toNat W _

/-- `vmsub` (R1602). -/
theorem msubLane_toNat (c a b : BitVec W) :
    ((msubLane W c a b).toNat : Int) = (c.toNat - ext .U a * ext .U b) % 2 ^ W := bits_toNat W _

/-! ### The commands -/

/-- Settles O46: each lane is the pattern of the exact product, of its upper half, or of its accumulation. -/
theorem multiplyLanes : Obligations.MultiplyLanes := by
  refine fun s hl => ⟨fun p hp => ?_, fun p hp => ?_, fun p hp => ?_, fun p hp => ?_⟩
  · obtain ⟨hW, hx⟩ : LaneWidth p.2 ∧ exec p.1 s = lanewise2 p.2 (mulLane p.2) s := by
      fin_cases hp <;> exact ⟨by decide, rfl⟩
    exact gives_lanewise2 hl hW hx (fun x y => x * y) mulLane_toNat
  · obtain ⟨hW, hx⟩ : LaneWidth p.2.1 ∧ exec p.1 s = lanewise2 p.2.1 (muhLane p.2.2 p.2.1) s := by
      fin_cases hp <;> exact ⟨by decide, rfl⟩
    exact gives_lanewise2 hl hW hx (fun x y => ⌊((x * y : Int) : ℚ) / 2 ^ p.2.1⌋) (muhLane_toNat _)
  · obtain ⟨hW, hx⟩ : LaneWidth p.2 ∧ exec p.1 s = lanewise3 p.2 (maddLane p.2) s := by
      fin_cases hp <;> exact ⟨by decide, rfl⟩
    exact gives_lanewise3 hl hW hx (fun z x y => z + x * y) maddLane_toNat
  · obtain ⟨hW, hx⟩ : LaneWidth p.2 ∧ exec p.1 s = lanewise3 p.2 (msubLane p.2) s := by
      fin_cases hp <;> exact ⟨by decide, rfl⟩
    exact gives_lanewise3 hl hW hx (fun z x y => z - x * y) msubLane_toNat

/-- Settles O47: each command is a widening command with its half, signs and operation. `(… :)` takes the operation from
the command before the statement is compared. -/
theorem wideningMultiplyLanes : Obligations.WideningMultiplyLanes := by
  refine fun s hl => ⟨fun p hp => ?_, fun p hp => ?_, fun p hp => ?_, fun p hp => ?_, fun p hp => ?_, fun p hp => ?_⟩
  · obtain ⟨hW, hx⟩ : LaneWidth (2 * p.2.1) ∧ exec p.1 s = widen p.2.1 .ev .ev p.2.2.1 p.2.2.2 timesZ s := by
      fin_cases hp <;> exact ⟨by decide, rfl⟩
    exact (gives_widen hl hW hx :)
  · obtain ⟨hW, hx⟩ : LaneWidth (2 * p.2.1) ∧ exec p.1 s = widen p.2.1 .od .od p.2.2.1 p.2.2.2 timesZ s := by
      fin_cases hp <;> exact ⟨by decide, rfl⟩
    exact (gives_widen hl hW hx :)
  · obtain ⟨hW, hx⟩ : LaneWidth (2 * p.2.1) ∧ exec p.1 s = widenAcc p.2.1 .ev p.2.2.1 p.2.2.2 plusZ s := by
      fin_cases hp <;> exact ⟨by decide, rfl⟩
    exact (gives_widenAcc hl hW hx :)
  · obtain ⟨hW, hx⟩ : LaneWidth (2 * p.2.1) ∧ exec p.1 s = widenAcc p.2.1 .od p.2.2.1 p.2.2.2 plusZ s := by
      fin_cases hp <;> exact ⟨by decide, rfl⟩
    exact (gives_widenAcc hl hW hx :)
  · obtain ⟨hW, hx⟩ : LaneWidth (2 * p.2.1) ∧ exec p.1 s = widenAcc p.2.1 .ev p.2.2.1 p.2.2.2 minusZ s := by
      fin_cases hp <;> exact ⟨by decide, rfl⟩
    exact (gives_widenAcc hl hW hx :)
  · obtain ⟨hW, hx⟩ : LaneWidth (2 * p.2.1) ∧ exec p.1 s = widenAcc p.2.1 .od p.2.2.1 p.2.2.2 minusZ s := by
      fin_cases hp <;> exact ⟨by decide, rfl⟩
    exact (gives_widenAcc hl hW hx :)

end Sys2Proof.Proofs.Multiply
end

section
/-! PROOF. The widening adds and subtracts and the narrowing commands (46_simd_widen_narrow.md R1801 to R1804; O48,
O49). -/

namespace Sys2Proof.Proofs.WidenNarrow

open Sys2Proof.Machine Sys2Proof.Spec Sys2Proof.Proofs.LaneReadings Sys2Proof.Proofs.WideningLanes

variable {W : Nat}

/-! ### The widening adds and subtracts -/

/-- A list of commands that widen alike, each at its own source width and signs, gives `f` of the two source lanes. -/
theorem gives_widen_of_forall {s : State} (hl : s.cfg.legal = true) (ha hb : Half) (f : Int → Int → Int)
    {l : List (Instr × Nat × Sign × Sign)}
    (h : ∀ p ∈ l, LaneWidth (2 * p.2.1) ∧ exec p.1 s = widen p.2.1 ha hb p.2.2.1 p.2.2.2 f s) :
    ∀ p ∈ l, Gives p.1 s (2 * p.2.1) fun k =>
      f (laneOf p.2.2.1 p.2.1 s.req.va (ha.index k)) (laneOf p.2.2.2 p.2.1 s.req.vb (hb.index k)) := fun p hp =>
  have ⟨hW, hx⟩ := h p hp
  gives_widen hl hW hx

/-- Settles O48: each command is a widening sum or difference of the halves it names. -/
theorem wideningAddSubtractLanes : Obligations.WideningAddSubtractLanes := by
  refine fun s hl => ⟨gives_widen_of_forall hl .od .ev plusZ fun p hp => ?vhaddw,
    gives_widen_of_forall hl .od .ev minusZ fun p hp => ?vhsubw,
    gives_widen_of_forall hl .ev .ev plusZ fun p hp => ?vaddwev,
    gives_widen_of_forall hl .od .od plusZ fun p hp => ?vaddwod,
    gives_widen_of_forall hl .ev .ev minusZ fun p hp => ?vsubwev,
    gives_widen_of_forall hl .od .od minusZ fun p hp => ?vsubwod⟩
  all_goals fin_cases hp <;> exact ⟨by decide, rfl⟩

/-! ### The narrowing commands -/

/-- The wide lane that result lane `k` of a narrowing command comes from: the lanes of `VA`, then those of `VB`
(R1803). -/
def narrowSource (W : Nat) (s : State) (k : Nat) : BitVec (2 * W) :=
  if k < s.lanes (2 * W) then lane (2 * W) s.req.va k else lane (2 * W) s.req.vb (k - s.lanes (2 * W))

theorem ext_narrowSource (σ : Sign) (hW : 0 < 2 * W) (s : State) (k : Nat) :
    ext σ (narrowSource W s k) = if k < s.cfg.vlen / (2 * W) then laneOf σ (2 * W) s.req.va k
      else laneOf σ (2 * W) s.req.vb (k - s.cfg.vlen / (2 * W)) := by
  simp only [laneOf_eq σ hW]
  exact apply_ite _ _ _ _

section
variable {i : Instr} {s : State} {σ : Sign} {f : BitVec (2 * W) → BitVec W} (hl : s.cfg.legal = true)
  (hW : LaneWidth W) (hW2 : LaneWidth (2 * W))
include hl hW hW2

/-- The wide lanes of two vectors are as many as the narrow lanes of one. -/
theorem two_mul_lanes_two_mul : 2 * s.lanes (2 * W) = s.lanes W := by
  have hn : 2 * s.lanes (2 * W) * W = s.lanes W * W := by
    rw [lanes_mul_of_legal hl hW, ← lanes_mul_of_legal hl hW2]
    ring
  exact Nat.eq_of_mul_eq_mul_right hW.pos hn

/-- A narrowing command fills `VR` with the narrowed source lanes (R1803). -/
theorem narrow_eq_packLanes : narrow W f s =
    .next (respondVec s (packLanes W (s.lanes W) fun k => f (narrowSource W s k))) := by
  simp only [narrow, narrowSource, two_mul_lanes_two_mul hl hW hW2, apply_ite f]

variable (hx : exec i s = narrow W f s) (g : Int → Int)
include hx

/-- A narrowing command that wraps: `g` says what its lanes are before the reduction modulo `2^W`. -/
theorem gives_narrow (hf : ∀ x, ((f x).toNat : Int) = g (ext σ x) % 2 ^ W) :
    Gives i s W fun k => g (if k < s.cfg.vlen / (2 * W) then laneOf σ (2 * W) s.req.va k
      else laneOf σ (2 * W) s.req.vb (k - s.cfg.vlen / (2 * W))) := by
  rw [narrow_eq_packLanes hl hW hW2] at hx
  simp only [← ext_narrowSource σ hW2.pos]
  exact gives_of_packLanes hl hW hx fun k => hf _

/-- A narrowing command whose lanes, read by `σ`, are exactly `g` of the source lanes read by `σ`. -/
theorem givesExactly_narrow (hf : ∀ x, ext σ (f x) = g (ext σ x)) :
    GivesExactly i s W σ fun k => g (if k < s.cfg.vlen / (2 * W) then laneOf σ (2 * W) s.req.va k
      else laneOf σ (2 * W) s.req.vb (k - s.cfg.vlen / (2 * W))) := by
  rw [narrow_eq_packLanes hl hW hW2] at hx
  simp only [← ext_narrowSource σ hW2.pos]
  exact givesExactly_of_packLanes hl hW hx fun k => hf _

end

/-- `vnarrow` (R1804). -/
theorem narrowWrap_toNat (x : BitVec (2 * W)) : ((narrowWrap W x).toNat : Int) = ext .U x % 2 ^ W := bits_toNat W _

/-- `vnarrows` (R1804). -/
theorem ext_narrowSigned (hW : 0 < W) (x : BitVec (2 * W)) : ext .S (narrowSigned W x) = clamp .S W (ext .S x) :=
  ext_sat .S hW _

/-- `vnarrowu` (R1804). -/
theorem ext_narrowUnsigned (hW : 0 < W) (x : BitVec (2 * W)) : ext .U (narrowUnsigned W x) = clamp .U W (ext .U x) :=
  ext_sat .U hW _

/-- Settles O49: the lanes of `VA` and then of `VB` fill the vector, each wrapped, or clamped to what `W` bits can
hold. -/
theorem narrowingLanes : Obligations.NarrowingLanes := by
  refine fun s hl => ⟨fun p hp => ?_, fun p hp => ?_, fun p hp => ?_⟩
  · obtain ⟨hW, hW2, hx⟩ : LaneWidth p.2 ∧ LaneWidth (2 * p.2) ∧ exec p.1 s = narrow p.2 (narrowWrap p.2) s := by
      fin_cases hp <;> exact ⟨by decide, by decide, rfl⟩
    exact gives_narrow hl hW hW2 hx id narrowWrap_toNat
  · obtain ⟨hW, hW2, hx⟩ : LaneWidth p.2 ∧ LaneWidth (2 * p.2) ∧ exec p.1 s = narrow p.2 (narrowSigned p.2) s := by
      fin_cases hp <;> exact ⟨by decide, by decide, rfl⟩
    exact givesExactly_narrow hl hW hW2 hx (clamp .S p.2) (ext_narrowSigned hW.pos)
  · obtain ⟨hW, hW2, hx⟩ : LaneWidth p.2 ∧ LaneWidth (2 * p.2) ∧ exec p.1 s = narrow p.2 (narrowUnsigned p.2) s := by
      fin_cases hp <;> exact ⟨by decide, by decide, rfl⟩
    exact givesExactly_narrow hl hW hW2 hx (clamp .U p.2) (ext_narrowUnsigned hW.pos)

end Sys2Proof.Proofs.WidenNarrow
end

section
/-! PROOF. The checks of the TLB commands, one equation for each outcome of each check, and the faults in their order
(O51). -/

namespace Sys2Proof.Proofs.TlbFaults

open Sys2Proof.Machine Sys2Proof.Spec Sys2Proof.Proofs.TlbReadings Sys2Proof.Proofs.Lookups

/-- A command that answers with a fault record on the state it began with (60_exceptions.md R2204). -/
theorem raises_of_raise {i : Instr} {s : State} {v : Word} (e : FaultCode) (h : exec i s = .next (raise s e v)) :
    Raises i s e.code v :=
  ⟨_, h, ⟨rfl, rfl, rfl, rfl, rfl, rfl, rfl, rfl⟩, rfl, rfl, rfl, rfl⟩

/-- A command that completes has raised nothing (10_state.md R59). -/
theorem not_raises_of_completes {i : Instr} {s t : State} (h : exec i s = .next t) (hok : t.resp.status = .OK)
    (c : BitVec 8) (v : Word) : ¬Raises i s c v := by
  rintro ⟨u, hu, ha, -⟩
  cases h.symm.trans hu
  rw [ha.outputs] at hok
  cases hok

/-! ### The checks of R2011 -/

section
variable {s : State}

theorem needKernel_of_kernel (hp : s.req.priv = .K) (k : Result) : needKernel s k = k := by
  simp only [needKernel, hp]

theorem needKernel_of_user (hp : s.req.priv = .U) (k : Result) :
    needKernel s k = .next (raise s .priv (s.req.cmd.setWidth 64)) := by
  simp only [needKernel, hp]

theorem needAsid_of_asidOk (ha : AsidOk s) (k : Result) : needAsid s k = k :=
  if_pos ((asidInRange_iff s).mpr ha)

theorem needAsid_of_not_asidOk (ha : ¬AsidOk s) (k : Result) : needAsid s k = .next (raise s .range s.req.xb) :=
  if_neg (mt (asidInRange_iff s).mp ha)

theorem needDesc_of_not_descOk (hl : s.cfg.legal = true) (hd : ¬DescOk s) (k : Result) :
    needDesc s k = .next (raise s .range s.req.xc) :=
  if_neg (mt (descLegal_iff hl).mp hd)

end

/-! ### The translations that fail -/

section
variable {c : Params} {tlb : List TlbEntry} {asid : BitVec 16} {va : Word} {acc : Access} {p : Priv}

/-- A translation that no entry matches (20_memory.md R110). -/
theorem translate_of_no_hit (h : ∀ e ∈ tlb, ¬e.hits asid (vpnOf c va) = true) :
    Machine.translate c tlb asid va acc p = .error .tlbMiss := by
  simp only [Machine.translate, List.find?_eq_none.mpr h]

/-- A translation that finds an entry that does not permit it (20_memory.md R110). -/
theorem translate_of_find?_refuses {e : TlbEntry} (h : tlb.find? (fun f => f.hits asid (vpnOf c va)) = some e)
    (hp : ¬Permits e acc p) : Machine.translate c tlb asid va acc p = .error .tlbPerm := by
  rw [permits_iff] at hp
  simp only [Machine.translate, h]
  split_ifs with hacc hpriv
  · rfl
  · rfl
  · exact absurd ⟨by simpa using hacc, Bool.eq_false_iff.mpr hpriv⟩ hp

end

/-! ### The faults -/

section
variable {s : State}

/-- Check 1 comes first in every TLB command but the lookups (47_tlb.md R2011). -/
theorem raises_priv_of_user (hp : s.req.priv = .U) {i : Instr} (hi : i ∈ kernelOnly) :
    Raises i s 2 (s.req.cmd.setWidth 64) := by
  fin_cases hi <;> exact raises_of_raise .priv (needKernel_of_user hp _)

/-- Check 2 follows check 1 in the commands that change entries of one ASID (47_tlb.md R2011). -/
theorem raises_range_of_not_asidOk (hp : s.req.priv = .K) (ha : ¬AsidOk s) {i : Instr}
    (hi : i ∈ ([.tlbfill, .tlbinvPage, .tlbinvAsid] : List Instr)) : Raises i s 4 s.req.xb := by
  fin_cases hi <;> exact raises_of_raise .range ((needKernel_of_kernel hp _).trans (needAsid_of_not_asidOk ha _))

/-- Check 3 is the last one of a fill (47_tlb.md R2010, R2011). -/
theorem tlbfill_raises_range_of_not_descOk (hl : s.cfg.legal = true) (hp : s.req.priv = .K) (ha : AsidOk s)
    (hd : ¬DescOk s) : Raises .tlbfill s 4 s.req.xc :=
  raises_of_raise .range ((needKernel_of_kernel hp _).trans
    ((needAsid_of_asidOk ha _).trans (needDesc_of_not_descOk hl hd _)))

/-- A lookup checks its ASID operand first, at both levels (47_tlb.md R2011). -/
theorem lookup_raises_range_of_not_asidOk (acc : Access) (ha : ¬AsidOk s) : Raises (lookupOf acc) s 4 s.req.xb :=
  raises_of_raise .range ((exec_lookupOf acc s).trans (needAsid_of_not_asidOk ha _))

/-- A lookup that no entry matches (47_tlb.md R2011). -/
theorem lookup_raises_miss (hl : s.cfg.legal = true) (acc : Access) (ha : AsidOk s)
    (hm : ∀ e ∈ s.tlb, ¬Matches e s.req.xb.toNat (vpn s s.req.xa)) : Raises (lookupOf acc) s 5 s.req.xa :=
  have ht := translate_of_no_hit fun e he => mt (hits_iff_matches hl ha e s.req.xa).mp (hm e he)
  raises_of_raise .tlbMiss ((exec_lookupOf acc s).trans (tlbLookup_of_translate_error ha ht))

/-- A lookup whose entry does not permit the access; the entry is the only one that matches (47_tlb.md R2011). -/
theorem lookup_raises_perm (h : s.Inv) {acc : Access} {i : Nat} {e : TlbEntry} (ha : AsidOk s)
    (hi : s.tlb[i]? = some e) (hm : Matches e s.req.xb.toNat (vpn s s.req.xa)) (hp : ¬Permits e acc s.req.priv) :
    Raises (lookupOf acc) s 6 s.req.xa :=
  have he := (hits_iff_matches h.cfgLegal ha e s.req.xa).mpr hm
  have ht := translate_of_find?_refuses (find?_hits_of_unique h.tlbUnique hi he) hp
  raises_of_raise .tlbPerm ((exec_lookupOf acc s).trans (tlbLookup_of_translate_error ha ht))

end

/-- Settles O51, check by check. -/
theorem tlbCommandsFaultInOrder : Obligations.TlbCommandsFaultInOrder := fun _ h =>
  ⟨fun hp _ => raises_priv_of_user hp, fun hp ha _ => raises_range_of_not_asidOk hp ha,
    tlbfill_raises_range_of_not_descOk h.cfgLegal, fun acc =>
      ⟨lookup_raises_range_of_not_asidOk acc, lookup_raises_miss h.cfgLegal acc, fun _ _ => lookup_raises_perm h⟩⟩

end Sys2Proof.Proofs.TlbFaults
end

section
/-! PROOF. A later request on the state that a TLB command leaves, and the lookup after a fill (O53). -/

namespace Sys2Proof.Proofs.FillThenLookup

open Sys2Proof.Machine Sys2Proof.Spec Sys2Proof.Proofs.Invariant Sys2Proof.Proofs.Fill Sys2Proof.Proofs.TlbFaults

/-- The invariant speaks of no request. -/
theorem inv_withRequest {s : State} (h : s.Inv) (q : Request) : State.Inv { s with req := q } := { h with }

/-- The virtual page number reads the parameters alone (20_memory.md R104). -/
theorem vpn_congr {s t : State} (h : t.cfg = s.cfg) (va : Word) : vpn t va = vpn s va := by
  rw [vpn, vpn, h]

/-- A fill that completes has passed its three checks (47_tlb.md R2011). -/
theorem checks_of_tlbfill_completes {s t : State} (hl : s.cfg.legal = true) (h : exec .tlbfill s = .next t)
    (hok : t.resp.status = .OK) : s.req.priv = .K ∧ AsidOk s ∧ DescOk s := by
  have hno := not_raises_of_completes h hok
  have hp : s.req.priv = .K := by
    cases hp : s.req.priv with
    | K => rfl
    | U => exact absurd (raises_priv_of_user hp (by decide)) (hno _ _)
  have ha : AsidOk s := of_not_not fun ha => hno _ _ (raises_range_of_not_asidOk hp ha (by decide))
  exact ⟨hp, ha, of_not_not fun hd => hno _ _ (tlbfill_raises_range_of_not_descOk hl hp ha hd)⟩

/-- The entry of a fill matches its page for the filled ASID, and for every ASID if it is global (20_memory.md R107). -/
theorem matches_of_isFilled {s : State} {n : TlbEntry} (h : IsFilled s n) {xb : Word}
    (hxb : xb = s.req.xb ∨ s.req.xc.getLsbD 4 = true) : Matches n xb.toNat (vpn s s.req.xa) := by
  obtain ⟨hv, hvpn, hasid, -, -, -, -, -, hg⟩ := h
  refine ⟨hv, hvpn, ?_⟩
  rcases hxb with rfl | hglobal
  · exact .inr hasid
  · exact .inl (hg.trans hglobal)

/-- The entry of a fill permits what the descriptor permits (47_tlb.md R2004, 20_memory.md R110). -/
theorem permits_of_isFilled {s : State} {n : TlbEntry} (h : IsFilled s n) {acc : Access} {p : Priv}
    (hacc : s.req.xc.getLsbD (match acc with | .R => 0 | .W => 1 | .X => 2) = true)
    (hp : p = .U → s.req.xc.getLsbD 3 = true) : Permits n acc p := by
  obtain ⟨-, -, -, -, hr, hw, hx, hu, -⟩ := h
  refine ⟨?_, fun hU => hu.trans (hp hU)⟩
  cases acc with
  | R => exact hr.trans hacc
  | W => exact hw.trans hacc
  | X => exact hx.trans hacc

/-- Settles O53: the fill has placed its entry (O52), and the lookup hits it (O50). -/
theorem fillThenLookupFindsMapping : Obligations.FillThenLookupFindsMapping := by
  intro s t q acc h ht hok hxb hpage hacc hpriv
  obtain ⟨hp, ha, hd⟩ := checks_of_tlbfill_completes h.cfgLegal ht hok
  obtain ⟨t', n, k, ht', hans, hn, -, -, -, -, hk, -⟩ := fillPlacesEntry s h hp ha hd
  cases ht.symm.trans ht'
  have hInv : State.Inv { t with req := q } := inv_withRequest (keepsInv_exec h .tlbfill t ht) q
  have hq : AsidOk { t with req := q } := by
    change q.xb.toNat < 2 ^ t.cfg.asidBits
    rw [hans.cfg]
    rcases hxb with hxb | ⟨-, hxb⟩
    · exact hxb ▸ ha
    · exact hxb
  have hm : Matches n q.xb.toNat (vpn { t with req := q } q.xa) := by
    rw [vpn_congr (t := { t with req := q }) hans.cfg, hpage]
    exact matches_of_isFilled hn (hxb.imp_right And.left)
  obtain ⟨pa, hpa, -, hret⟩ :=
    Lookups.lookupHitGivesPhysicalAddress _ acc k n hInv hq hk hm (permits_of_isFilled hn hacc hpriv)
  obtain ⟨-, -, -, hppn, -⟩ := hn
  exact ⟨pa, by rw [hpa, hans.cfg, hppn], hret⟩

end Sys2Proof.Proofs.FillThenLookup
end

section
/-! PROOF. `tlbprobe` returns the index that the search finds (O54). -/

namespace Sys2Proof.Proofs.Probe

open Sys2Proof.Machine Sys2Proof.Spec Sys2Proof.Proofs.TlbReadings Sys2Proof.Proofs.TlbFaults

/-- In a TLB with unique matches the search finds the index of the entry that matches (20_memory.md R109). -/
theorem matchIndex_of_unique {tlb : List TlbEntry} (hu : TlbUnique tlb) {i : Nat} {e : TlbEntry} {asid : BitVec 16}
    {vpn : BitVec 64} (hi : tlb[i]? = some e) (he : e.hits asid vpn = true) : matchIndex tlb asid vpn = some i := by
  cases hj : matchIndex tlb asid vpn with
  | none => exact absurd he (Bool.eq_false_iff.mp (List.findIdx?_eq_none_iff.mp hj e (List.mem_of_getElem? hi)))
  | some j =>
    obtain ⟨⟨f, hf, hfh⟩, -⟩ := Fill.findIdx?_lowest hj
    rw [hu j i f e asid vpn hf hi hfh he]

section
variable {s : State}

/-- The match rule for the ASID CSR (20_memory.md R107). -/
theorem hits_asidCsr_iff_matches (e : TlbEntry) (va : Word) :
    e.hits s.asid (vpnOf s.cfg va) = true ↔ Matches e s.asid.toNat (vpn s va) := by
  rw [TlbEntry.hits_iff, Matches, ← BitVec.toNat_inj, ← BitVec.toNat_inj, vpnOf_toNat]

/-- A probe that finds an entry (47_tlb.md R2005). -/
theorem tlbprobe_returns_index (hp : s.req.priv = .K) {i : Nat}
    (hm : matchIndex s.tlb s.asid (vpnOf s.cfg s.req.xa) = some i) : Returns .tlbprobe s (BitVec.ofNat 64 i) := by
  refine returns_of_respondScalar ((needKernel_of_kernel hp _).trans ?_)
  rw [hm]

/-- A probe that finds none (47_tlb.md R2005). -/
theorem tlbprobe_returns_miss (hp : s.req.priv = .K)
    (hm : ∀ e ∈ s.tlb, ¬Matches e s.asid.toNat (vpn s s.req.xa)) : Returns .tlbprobe s 0x8000000000000000 := by
  have hnone : matchIndex s.tlb s.asid (vpnOf s.cfg s.req.xa) = none :=
    List.findIdx?_eq_none_iff.mpr fun e he =>
      Bool.eq_false_iff.mpr (mt (hits_asidCsr_iff_matches e s.req.xa).mp (hm e he))
  refine returns_of_respondScalar ((needKernel_of_kernel hp _).trans ?_)
  rw [hnone]

end

/-- Settles O54: the level is the only check, and the search decides the result. -/
theorem probeSearchesWithAsidCsr : Obligations.ProbeSearchesWithAsidCsr := by
  refine fun s h => ⟨fun hp => raises_priv_of_user hp (by decide), fun hp i e hi hm => ?_, tlbprobe_returns_miss⟩
  exact tlbprobe_returns_index hp (matchIndex_of_unique h.tlbUnique hi ((hits_asidCsr_iff_matches e _).mpr hm))

end Sys2Proof.Proofs.Probe
end

section
/-! PROOF. The entries that an invalidation clears (O55), and the lookups and probes after it (O56). -/

namespace Sys2Proof.Proofs.Invalidations

open Sys2Proof.Machine Sys2Proof.Spec Sys2Proof.Proofs.TlbReadings Sys2Proof.Proofs.TlbFaults
  Sys2Proof.Proofs.FillThenLookup Sys2Proof.Proofs.Probe

/-! ### What is cleared -/

/-- A command that ends in an invalidation clears the entries its test picks (47_tlb.md R2000, R2009). -/
theorem invalidates_of_tlbInvalidate {i : Instr} {s : State} {p : TlbEntry → Bool} {P : TlbEntry → Prop}
    (h : exec i s = tlbInvalidate p s) (hp : ∀ e, p e = true ↔ P e) : Invalidates i s P := by
  refine ⟨_, h, ⟨rfl, rfl, rfl, rfl, rfl, rfl, rfl, rfl⟩, ⟨invalidateIf_length p s.tlb, fun k e hk => ?_⟩, rfl, rfl,
    rfl⟩
  rw [← hp, respondScalar_tlb, invalidateIf_getElem?, hk]
  exact ⟨fun he => by simp [he, TlbEntry.clear], fun he => by simp [he]⟩

section
variable {s : State} (hp : s.req.priv = .K)
include hp

/-- `tlbinv.page` (47_tlb.md R2006). -/
theorem invalidates_tlbinvPage (hl : s.cfg.legal = true) (ha : AsidOk s) :
    Invalidates .tlbinvPage s fun e => Matches e s.req.xb.toNat (vpn s s.req.xa) :=
  invalidates_of_tlbInvalidate ((needKernel_of_kernel hp _).trans (needAsid_of_asidOk ha _))
    fun e => hits_iff_matches hl ha e s.req.xa

/-- `tlbinv.asid` (47_tlb.md R2007). -/
theorem invalidates_tlbinvAsid (hl : s.cfg.legal = true) (ha : AsidOk s) :
    Invalidates .tlbinvAsid s fun e => e.v = true ∧ e.g = false ∧ e.asid.toNat = s.req.xb.toNat := by
  refine invalidates_of_tlbInvalidate ((needKernel_of_kernel hp _).trans (needAsid_of_asidOk ha _)) fun e => ?_
  rw [← asidOf_toNat_of_asidOk hl ha, BitVec.toNat_inj]
  simp [and_assoc]

/-- `tlbinv.global` (47_tlb.md R2008). -/
theorem invalidates_tlbinvGlobal : Invalidates .tlbinvGlobal s fun e => e.v = true ∧ e.g = true :=
  invalidates_of_tlbInvalidate (needKernel_of_kernel hp _) fun e => by simp

/-- `tlbinv.all` (47_tlb.md R2009). -/
theorem invalidates_tlbinvAll : Invalidates .tlbinvAll s fun _ => True :=
  invalidates_of_tlbInvalidate (needKernel_of_kernel hp _) fun e => by simp

end

/-- Settles O55, command by command. -/
theorem invalidationsRemoveExactlyTheirEntries : Obligations.InvalidationsRemoveExactlyTheirEntries := fun _ h hp =>
  ⟨invalidates_tlbinvPage hp h.cfgLegal, invalidates_tlbinvAsid hp h.cfgLegal, invalidates_tlbinvGlobal hp,
    invalidates_tlbinvAll hp⟩

/-! ### What is left -/

section
variable {i : Instr} {s t : State} {P : TlbEntry → Prop}

/-- An invalidation in other words for the entries it clears. -/
theorem invalidates_congr {Q : TlbEntry → Prop} (h : Invalidates i s P) (hPQ : ∀ e, P e ↔ Q e) : Invalidates i s Q :=
  (funext fun e => propext (hPQ e) : P = Q) ▸ h

/-- An entry that is valid after an invalidation was there before and is none of those it cleared. -/
theorem mem_of_valid_after (h : Invalidated s t P) {e : TlbEntry} (he : e ∈ t.tlb) (hv : e.v = true) :
    e ∈ s.tlb ∧ ¬P e := by
  obtain ⟨k, hk⟩ := List.mem_iff_getElem?.mp he
  obtain ⟨hlen, hentry⟩ := h
  have hlt : k < s.tlb.length := hlen ▸ (List.getElem?_eq_some_iff.mp hk).1
  obtain ⟨hclear, hkeep⟩ := hentry k _ (List.getElem?_eq_getElem hlt)
  by_cases hP : P s.tlb[k]
  · cases hk.symm.trans (hclear hP)
    cases hv
  · cases hk.symm.trans (hkeep hP)
    exact ⟨List.getElem_mem hlt, hP⟩

/-- The state an invalidation leaves. -/
theorem invalidated_of_exec (h : Invalidates i s P) (hx : exec i s = .next t) :
    Invalidated s t P ∧ t.cfg = s.cfg ∧ t.asid = s.asid := by
  obtain ⟨u, hu, ha, hI, -, hasid, -⟩ := h
  cases hx.symm.trans hu
  exact ⟨hI, ha.cfg, hasid⟩

/-- `tlbinv.page` and `tlbinv.asid` complete only with their ASID operand in range (47_tlb.md R2011). -/
theorem asidOk_of_completes (hp : s.req.priv = .K) (hi : i ∈ ([.tlbfill, .tlbinvPage, .tlbinvAsid] : List Instr))
    (hx : exec i s = .next t) (hok : t.resp.status = .OK) : AsidOk s :=
  of_not_not fun ha => not_raises_of_completes hx hok _ _ (raises_range_of_not_asidOk hp ha hi)

/-- An invalidation that completes clears what `Removes` says (47_tlb.md R2006 to R2009). -/
theorem invalidates_removes (hl : s.cfg.legal = true) (hp : s.req.priv = .K)
    (hi : i ∈ ([.tlbinvPage, .tlbinvAsid, .tlbinvGlobal, .tlbinvAll] : List Instr)) (hx : exec i s = .next t)
    (hok : t.resp.status = .OK) : Invalidates i s (Removes i s) := by
  fin_cases hi
  · exact invalidates_congr (invalidates_tlbinvPage hp hl (asidOk_of_completes hp (by decide) hx hok))
      fun e => by simp [Removes]
  · exact invalidates_congr (invalidates_tlbinvAsid hp hl (asidOk_of_completes hp (by decide) hx hok))
      fun e => by simp [Removes]
  · exact invalidates_congr (invalidates_tlbinvGlobal hp) fun e => by simp [Removes]
  · exact invalidates_congr (invalidates_tlbinvAll hp) fun e => by simp [Removes]

/-! ### Lookups and probes afterwards -/

/-- A pair whose matching entries are all cleared matches nothing afterwards (20_memory.md R118). -/
theorem no_match_after (hI : Invalidated s t P) {asid vpn : Nat} (hm : ∀ e ∈ s.tlb, Matches e asid vpn → P e) :
    ∀ e ∈ t.tlb, ¬Matches e asid vpn := by
  intro e he hme
  obtain ⟨hes, hne⟩ := mem_of_valid_after hI he hme.1
  exact hne (hm e hes hme)

variable (hI : Invalidates i s P) (hx : exec i s = .next t) {q : Request}
include hI hx

/-- A lookup whose matching entries an invalidation has cleared (20_memory.md R118). -/
theorem lookup_after_raises_miss (hl : s.cfg.legal = true) (acc : Access) (hxb : q.xb.toNat < 2 ^ s.cfg.asidBits)
    (hm : ∀ e ∈ s.tlb, Matches e q.xb.toNat (vpn s q.xa) → P e) : Raises (lookupOf acc) { t with req := q } 5 q.xa := by
  obtain ⟨hinv, hcfg, -⟩ := invalidated_of_exec hI hx
  have ha : AsidOk { t with req := q } := by
    change q.xb.toNat < 2 ^ t.cfg.asidBits
    rwa [hcfg]
  refine lookup_raises_miss (s := { t with req := q }) (hcfg ▸ hl) acc ha ?_
  rw [vpn_congr (t := { t with req := q }) hcfg]
  exact no_match_after hinv hm

/-- A probe whose matching entries an invalidation has cleared (20_memory.md R118). -/
theorem tlbprobe_after_returns_miss (hp : q.priv = .K)
    (hm : ∀ e ∈ s.tlb, Matches e s.asid.toNat (vpn s q.xa) → P e) :
    Returns .tlbprobe { t with req := q } 0x8000000000000000 := by
  obtain ⟨hinv, hcfg, hasid⟩ := invalidated_of_exec hI hx
  refine tlbprobe_returns_miss hp ?_
  rw [vpn_congr (t := { t with req := q }) hcfg, hasid]
  exact no_match_after hinv hm

end

/-- Settles O56: an entry that matches afterwards was there before and is none of those cleared (O55). -/
theorem invalidatedPageMisses : Obligations.InvalidatedPageMisses := by
  intro s t q acc h hp
  have hl := h.cfgLegal
  refine ⟨fun i hi hx hok => ?_, fun hx hok hpage => ?_, fun hx hok e he hme => ?_, fun hx hxb => ?_, fun hx hq => ?_,
    fun hx e he hv => ?_⟩
  · have hI := invalidates_removes hl hp hi hx hok
    exact ⟨lookup_after_raises_miss hI hx hl acc, tlbprobe_after_returns_miss hI hx⟩
  · have ha : AsidOk s := asidOk_of_completes hp (by decide) hx hok
    have hI := invalidates_tlbinvPage hp hl ha
    rw [← hpage] at hI
    refine ⟨fun hxb => ?_, fun hasid hq => ?_⟩
    · rw [← hxb] at hI
      exact lookup_after_raises_miss hI hx hl acc (hxb ▸ ha) fun _ _ => id
    · rw [← hasid] at hI
      exact tlbprobe_after_returns_miss hI hx hq fun _ _ => id
  · have ha : AsidOk s := asidOk_of_completes hp (by decide) hx hok
    obtain ⟨hv, -, hg⟩ := hme
    obtain ⟨-, hne⟩ := mem_of_valid_after (invalidated_of_exec (invalidates_tlbinvAsid hp hl ha) hx).1 he hv
    by_contra hlocal
    exact hne ⟨hv, Bool.eq_false_iff.mpr hlocal, hg.resolve_left hlocal⟩
  · exact lookup_after_raises_miss (invalidates_tlbinvAll hp) hx hl acc hxb fun _ _ _ => trivial
  · exact tlbprobe_after_returns_miss (invalidates_tlbinvAll hp) hx hq fun _ _ _ => trivial
  · obtain ⟨-, hne⟩ := mem_of_valid_after (invalidated_of_exec (invalidates_tlbinvGlobal hp) hx).1 he hv
    exact Bool.eq_false_iff.mpr fun hg => hne ⟨hv, hg⟩

end Sys2Proof.Proofs.Invalidations
end

section
/-! PROOF. The checks of the CSR commands, one equation for each outcome, and what `csrrd` (O59) and `csrwr` (O60)
answer in each. -/

namespace Sys2Proof.Proofs.CsrAccess

open Sys2Proof.Machine Sys2Proof.Spec Sys2Proof.Proofs.TlbReadings Sys2Proof.Proofs.TlbFaults

/-! ### The CSRs -/

theorem csrValue_fcsr (s : State) : s.csrValue .fcsr = BitVec.ofNat 64 s.fcsr.toNat :=
  (BitVec.ofNat_toNat 64 s.fcsr).symm

theorem csrValue_asid (s : State) : s.csrValue .asid = BitVec.ofNat 64 s.asid.toNat :=
  (BitVec.ofNat_toNat 64 s.asid).symm

/-- The values of FCSR have no bit outside the writable ones (10_state.md R54). -/
theorem csrValueLegal_fcsr_iff (c : Params) (x : Word) :
    csrValueLegal c .fcsr x = true ↔ x &&& ~~~(0x1F1F031F : Word) = 0 :=
  beq_iff_eq

/-- The values of ASID are below `2^ASIDBITS` (10_state.md R61). -/
theorem csrValueLegal_asid_iff (c : Params) (x : Word) :
    csrValueLegal c .asid x = true ↔ x.toNat < 2 ^ c.asidBits :=
  decide_eq_true_iff

/-- A word with no bit outside a mask is at most the mask. -/
theorem toNat_le_of_and_not_eq_zero {x m : Word} (h : x &&& ~~~m = 0) : x.toNat ≤ m.toNat := by
  have hx : x &&& m = x := by
    calc x &&& m = (x &&& ~~~m) ||| (x &&& m) := by simp [h]
      _ = x := by rw [← BitVec.and_or_distrib_left, BitVec.or_comm, BitVec.or_not_self, BitVec.and_allOnes]
  calc x.toNat = x.toNat &&& m.toNat := by rw [← BitVec.toNat_and, hx]
    _ ≤ m.toNat := Nat.and_le_right

/-- A legal value of FCSR is written whole (48_csr.md R2101). -/
theorem setCsr_fcsr_toNat (s : State) {x : Word} (hx : csrValueLegal s.cfg .fcsr x = true) :
    (s.setCsr .fcsr x).fcsr.toNat = x.toNat := by
  have hle := toNat_le_of_and_not_eq_zero ((csrValueLegal_fcsr_iff s.cfg x).mp hx)
  exact (BitVec.toNat_setWidth 32 x).trans (Nat.mod_eq_of_lt (hle.trans_lt (by decide)))

/-- A legal value of ASID is written whole (48_csr.md R2101). -/
theorem setCsr_asid_toNat {s : State} (hl : s.cfg.legal = true) {x : Word}
    (hx : csrValueLegal s.cfg .asid x = true) : (s.setCsr .asid x).asid.toNat = x.toNat :=
  (asidOf_toNat hl x).trans (Nat.mod_eq_of_lt ((csrValueLegal_asid_iff s.cfg x).mp hx))

/-! ### The checks of R2102 -/

section
variable {s : State}

theorem csrOf_unknown {n : Word} (h0 : n ≠ 0) (h1 : n ≠ 1) : csrOf n = none :=
  (if_neg h0).trans (if_neg h1)

/-- FCSR is open to both levels. -/
theorem needCsr_fcsr (hn : s.req.imm = 0) (k : Machine.Csr → Result) : needCsr s k = k .fcsr := by
  rw [needCsr, hn]
  rfl

theorem needCsr_asid_of_kernel (hn : s.req.imm = 1) (hp : s.req.priv = .K) (k : Machine.Csr → Result) :
    needCsr s k = k .asid := by
  rw [needCsr, hn, hp]
  rfl

theorem needCsr_asid_of_user (hn : s.req.imm = 1) (hp : s.req.priv = .U) (k : Machine.Csr → Result) :
    needCsr s k = .next (raise s .priv s.req.imm) := by
  rw [needCsr, hn, hp]
  rfl

theorem needCsr_of_unknown (h0 : s.req.imm ≠ 0) (h1 : s.req.imm ≠ 1) (k : Machine.Csr → Result) :
    needCsr s k = .next (raise s .range s.req.imm) := by
  rw [needCsr, csrOf_unknown h0 h1]

/-! ### The faults that both commands share -/

/-- Both CSR commands begin with the checks of the number and of the level (48_csr.md R2102). -/
theorem exec_csr_needCsr {i : Instr} (hi : i ∈ ([.csrrd, .csrwr] : List Instr)) (s : State) :
    ∃ k, exec i s = needCsr s k := by
  fin_cases hi <;> exact ⟨_, rfl⟩

/-- Check 1 comes before the level and the value (48_csr.md R2102). -/
theorem raises_range_of_unknown_csr (h0 : s.req.imm ≠ 0) (h1 : s.req.imm ≠ 1) {i : Instr}
    (hi : i ∈ ([.csrrd, .csrwr] : List Instr)) : Raises i s 4 s.req.imm := by
  obtain ⟨k, hk⟩ := exec_csr_needCsr hi s
  exact raises_of_raise .range (hk.trans (needCsr_of_unknown h0 h1 k))

/-- Check 2 comes before the value (48_csr.md R2102). -/
theorem raises_priv_of_user_asid (hn : s.req.imm = 1) (hp : s.req.priv = .U) {i : Instr}
    (hi : i ∈ ([.csrrd, .csrwr] : List Instr)) : Raises i s 2 s.req.imm := by
  obtain ⟨k, hk⟩ := exec_csr_needCsr hi s
  exact raises_of_raise .priv (hk.trans (needCsr_asid_of_user hn hp k))

/-! ### Past the checks of the number and of the level -/

section
variable {c : Machine.Csr} (hc : ∀ k, needCsr s k = k c)
include hc

/-- A read past its checks (48_csr.md R2100). -/
theorem csrrd_returns_csrValue : Returns .csrrd s (s.csrValue c) :=
  returns_of_respondScalar (hc _)

/-- A write whose value is legal (48_csr.md R2101). -/
theorem exec_csrwr_of_legal (hx : csrValueLegal s.cfg c s.req.xa = true) :
    exec .csrwr s = .next (respondScalar (s.setCsr c s.req.xa) (s.csrValue c)) :=
  (hc _).trans (if_pos hx)

/-- Check 3 is the last one of a write (48_csr.md R2102). -/
theorem csrwr_raises_range_of_illegal (hx : ¬csrValueLegal s.cfg c s.req.xa = true) : Raises .csrwr s 4 s.req.xa :=
  raises_of_raise .range ((hc _).trans (if_neg hx))

end

/-- A write of FCSR that completes (48_csr.md R2101). -/
theorem csrwr_writes_fcsr (hn : s.req.imm = 0) (hx : csrValueLegal s.cfg .fcsr s.req.xa = true) :
    ∃ t, exec .csrwr s = .next t ∧ Answered s t (ok 0 (BitVec.ofNat 64 s.fcsr.toNat)) ∧
      t.fcsr.toNat = s.req.xa.toNat ∧ t.asid = s.asid ∧ t.tlb = s.tlb ∧ t.rr = s.rr := by
  rw [← csrValue_fcsr]
  exact ⟨_, exec_csrwr_of_legal (needCsr_fcsr hn) hx, ⟨rfl, rfl, rfl, rfl, rfl, rfl, rfl, rfl⟩,
    setCsr_fcsr_toNat s hx, rfl, rfl, rfl⟩

/-- A write of ASID that completes (48_csr.md R2101). -/
theorem csrwr_writes_asid (hl : s.cfg.legal = true) (hn : s.req.imm = 1) (hp : s.req.priv = .K)
    (hx : csrValueLegal s.cfg .asid s.req.xa = true) :
    ∃ t, exec .csrwr s = .next t ∧ Answered s t (ok 0 (BitVec.ofNat 64 s.asid.toNat)) ∧
      t.asid.toNat = s.req.xa.toNat ∧ t.fcsr = s.fcsr ∧ t.tlb = s.tlb ∧ t.rr = s.rr := by
  rw [← csrValue_asid]
  exact ⟨_, exec_csrwr_of_legal (needCsr_asid_of_kernel hn hp) hx, ⟨rfl, rfl, rfl, rfl, rfl, rfl, rfl, rfl⟩,
    setCsr_asid_toNat hl hx, rfl, rfl, rfl⟩

end

/-- Settles O59, by the outcomes of the checks of the number and of the level. -/
theorem csrReadReturnsRegister : Obligations.CsrReadReturnsRegister := by
  refine fun s => ⟨fun hn => ?_, fun hn hp => ?_, fun hn hp => raises_priv_of_user_asid hn hp (by decide),
    fun h0 h1 => raises_range_of_unknown_csr h0 h1 (by decide)⟩
  · exact csrValue_fcsr s ▸ csrrd_returns_csrValue (needCsr_fcsr hn)
  · exact csrValue_asid s ▸ csrrd_returns_csrValue (needCsr_asid_of_kernel hn hp)

/-- Settles O60, by the outcomes of the three checks; a value that passes the third is written whole. -/
theorem csrWriteChecksThenWrites : Obligations.CsrWriteChecksThenWrites := by
  refine fun s hl => ⟨fun hn hx => ?_, fun hn hx => ?_, fun hn hp hx => ?_, fun hn hp hx => ?_,
    fun hn hp => raises_priv_of_user_asid hn hp (by decide),
    fun h0 h1 => raises_range_of_unknown_csr h0 h1 (by decide)⟩
  · exact csrwr_writes_fcsr hn ((csrValueLegal_fcsr_iff _ _).mpr hx)
  · exact csrwr_raises_range_of_illegal (needCsr_fcsr hn) (mt (csrValueLegal_fcsr_iff _ _).mp hx)
  · exact csrwr_writes_asid hl hn hp ((csrValueLegal_asid_iff _ _).mpr hx)
  · exact csrwr_raises_range_of_illegal (needCsr_asid_of_kernel hn hp)
      (mt (csrValueLegal_asid_iff _ _).mp hx.not_gt)

end Sys2Proof.Proofs.CsrAccess
end

section
/-! PROOF. What a clock cycle does at reset, with a request in flight, and with any word in the latch: no step stops
(O7), offers to a busy unit are not read (O12), and a reset abandons the request in flight (O13). -/

namespace Sys2Proof.Proofs.Hazards

open Sys2Proof.Machine Sys2Proof.Spec Sys2Proof.Proofs.SingleCycle Sys2Proof.Proofs.Responses

/-- A cycle with `rst = 1` (70_reset_and_hazards.md R2300). -/
theorem step_reset {s : State} (hl : s.cfg.legal = true) (hr : (inputAt s 0).rst = true) :
    step s = .next (applyReset s.popCycle) := by
  simpa [nextCycle_eq_inputAt, hl, hr] using step_cases s

/-- A unit whose parameters are not in the table of R11 (log 14). -/
theorem step_illegalParams {s : State} (hl : s.cfg.legal = false) : step s = .fault .illegalParams := by
  simpa [hl] using step_cases s

/-- Settles O7: each of the four branches of a legal unit's cycle answers a next state, the response's by
`answer_answered`. -/
theorem stepNeverStops : Obligations.StepNeverStops := by
  refine ⟨fun s hl => ?_, fun _ => step_illegalParams⟩
  rcases step_cases s with ⟨hn, -⟩ | ⟨-, -, h⟩ | ⟨-, -, -, ⟨r, -, h⟩ | ⟨-, h⟩⟩ | ⟨-, -, -, h⟩ | ⟨-, -, -, h⟩
  · exact absurd hl (Bool.eq_false_iff.mp hn)
  · exact ⟨_, h⟩
  · exact ⟨_, h⟩
  · exact ⟨_, h⟩
  · obtain ⟨t, ht, -⟩ := answer_answered s.popCycle
    exact ⟨t, h.trans ht⟩
  · exact ⟨_, h⟩

/-- Of this cycle's inputs, a unit with a request in flight reads `rst` alone (70_reset_and_hazards.md R2305). -/
theorem step_of_busy {s : State} (hb : s.busy ≠ 0) : step s =
    if s.cfg.legal = true then
      if (inputAt s 0).rst = true then .next (applyReset s.popCycle)
      else if s.busy = 1 then answer s.popCycle else .next (wait s.popCycle)
    else .fault .illegalParams := by
  split_ifs with hl hr h1
  · exact step_reset hl hr
  · exact step_answer hl (Bool.eq_false_iff.mpr hr) h1
  · exact step_wait hl (Bool.eq_false_iff.mpr hr) (by omega)
  · exact step_illegalParams (Bool.eq_false_iff.mpr hl)

/-- With no reset, the request in flight stays in the latch through its response (10_state.md R60). -/
theorem step_of_busy_keeps_req {s t : State} (hb : s.busy ≠ 0) (hr : (inputAt s 0).rst = false)
    (h : step s = .next t) : t.req = s.req ∧ t.inputs = s.inputs.tail := by
  rw [step_of_busy hb, hr, if_neg Bool.false_ne_true] at h
  split_ifs at h
  · obtain ⟨u, hu, ha⟩ := answer_answered s.popCycle
    cases hu.symm.trans h
    exact ⟨ha.req, ha.inputs⟩
  · cases h
    exact ⟨rfl, rfl⟩

/-- Settles O12: `step_of_busy` says the same of both states, since they agree once this cycle's inputs are taken. -/
theorem busyUnitIgnoresOffers : Obligations.BusyUnitIgnoresOffers := by
  refine ⟨fun s c cs q hb hi => ?_, fun _ _ => step_of_busy_keeps_req⟩
  have hpop : State.popCycle { s with inputs := { c with req := q } :: cs } = s.popCycle := by
    simp [State.popCycle, hi]
  have hrst : (inputAt { s with inputs := { c with req := q } :: cs } 0).rst = (inputAt s 0).rst := by
    simp [inputAt, hi]
  rw [step_of_busy hb, step_of_busy (s := { s with inputs := { c with req := q } :: cs }) hb, hpop, hrst]

/-- Settles O13: the reset comes before the request in flight and before the offer. -/
theorem resetAbandonsRequest : Obligations.ResetAbandonsRequest := by
  intro s hl hr
  refine ⟨?_, _, step_reset hl hr, rfl, rfl⟩
  rw [hr]
  rfl

end Sys2Proof.Proofs.Hazards
end

section
/-! PROOF. Which faults a command can raise, command by command, and what a fault changes (O16, O17); what a request
at U may do (O18, O19). -/

namespace Sys2Proof.Proofs.Faults

open Sys2Proof.Machine Sys2Proof.Spec Sys2Proof.Proofs.Responses Sys2Proof.Proofs.Commit Sys2Proof.Proofs.Forms
  Sys2Proof.Proofs.TlbReadings Sys2Proof.Proofs.TlbFaults Sys2Proof.Proofs.CsrAccess

/-! ### The faults of the FPU commands -/

/-- An FPU command completes, or raises FPE on an enabled exception and writes CAUSE alone (40_fp_arith.md R1010). -/
theorem exec_fpu_resp {i : Instr} {s t : State} (hu : Fpu i) (h : exec i s = .next t) :
    ∃ r : Word × ExcSet, t.resp = ok 0 r.1 ∨
      r.2 &&& enables s ≠ 0 ∧ t.resp = fault 7 (r.2.setWidth 64) s.req.pc ∧
        FcsrBecomes s t r.2 (s.fcsr.extractLsb' 16 5) := by
  obtain ⟨r, hr⟩ := exec_fpu i s hu
  obtain ⟨hok, htrap⟩ := commits_of_exec hr
  refine ⟨r, ?_⟩
  by_cases he : r.2 &&& enables s = 0
  · obtain ⟨u, hu, ha, -⟩ := hok he
    cases h.symm.trans hu
    exact .inl ha.outputs
  · obtain ⟨u, hu, ha, hb⟩ := htrap he
    cases h.symm.trans hu
    exact .inr ⟨he, ha.outputs, hb⟩

/-! ### The faults of the other commands -/

/-- The result is an OK response, or one of the faults `es` on the state unchanged (60_exceptions.md R2203, R2204). -/
inductive RaisesOnly (s : State) (es : List FaultCode) : Result → Prop
  | ok (t : State) (vr : Vec) (xr : Word) : RaisesOnly s es (.next (respond t (okResponse vr xr)))
  | fault (e : FaultCode) (v : Word) (he : e ∈ es) : RaisesOnly s es (.next (raise s e v))

section
variable {s t : State} {es : List FaultCode}

/-- A fault is one of those listed. -/
theorem RaisesOnly.eq_raise (h : RaisesOnly s es (.next t)) (hf : t.resp.status = .FAULT) :
    ∃ e ∈ es, ∃ v, t = raise s e v := by
  cases h with
  | ok => cases hf
  | fault e v he => exact ⟨e, he, v, rfl⟩

/-- FCODE is the code of one of the faults listed, or 0 (10_state.md R59). -/
theorem RaisesOnly.fcode_ne (h : RaisesOnly s es (.next t)) {c : BitVec 8} (h0 : 0 ≠ c) (hc : ∀ e ∈ es, e.code ≠ c) :
    t.resp.fcode ≠ c := by
  cases h with
  | ok => exact h0
  | fault e v he => exact hc e he

theorem RaisesOnly.mono {fs : List FaultCode} {o : Result} (h : RaisesOnly s es o) (hs : es ⊆ fs) :
    RaisesOnly s fs o := by
  cases h with
  | ok t vr xr => exact .ok t vr xr
  | fault e v he => exact .fault e v (hs he)

/-! The checks: PRIV is raised at U alone. -/

theorem RaisesOnly.needKernel {k : Result} (hk : RaisesOnly s es k) (hp : s.req.priv = .U → .priv ∈ es) :
    RaisesOnly s es (needKernel s k) := by
  cases h : s.req.priv with
  | K => exact (needKernel_of_kernel h k).symm ▸ hk
  | U => exact (needKernel_of_user h k).symm ▸ .fault _ _ (hp h)

theorem RaisesOnly.needAsid {k : Result} (hk : RaisesOnly s es k) (hr : .range ∈ es) :
    RaisesOnly s es (needAsid s k) := by
  unfold Machine.needAsid
  split
  · exact hk
  · exact .fault _ _ hr

theorem RaisesOnly.needDesc {k : Result} (hk : RaisesOnly s es k) (hr : .range ∈ es) :
    RaisesOnly s es (needDesc s k) := by
  unfold Machine.needDesc
  split
  · exact hk
  · exact .fault _ _ hr

theorem RaisesOnly.needCsr {k : Machine.Csr → Result} (hk : ∀ c, RaisesOnly s es (k c)) (hr : .range ∈ es)
    (hp : s.req.imm = 1 → s.req.priv = .U → .priv ∈ es) : RaisesOnly s es (needCsr s k) := by
  by_cases h0 : s.req.imm = 0
  · exact (needCsr_fcsr h0 k).symm ▸ hk _
  by_cases h1 : s.req.imm = 1
  · cases h : s.req.priv with
    | K => exact (needCsr_asid_of_kernel h1 h k).symm ▸ hk _
    | U => exact (needCsr_asid_of_user h1 h k).symm ▸ .fault _ _ (hp h1 h)
  · exact (needCsr_of_unknown h0 h1 k).symm ▸ .fault _ _ hr

end

/-! The commands. -/

section
variable {i : Instr} {s : State} {es : List FaultCode}

/-- A SIMD command raises ILLEGAL_IMM alone (43_simd_minmax.md R1501). -/
theorem exec_simd_raisesOnly (hu : Simd i) : RaisesOnly s [.illegalImm] (exec i s) := by
  rcases exec_simd i s hu with ⟨v, hv⟩ | hv
  · exact hv ▸ .ok s v 0
  · exact hv ▸ .fault _ _ (by decide)

/-- A TLB command is a privileged one or a lookup (47_tlb.md R2001 to R2009). -/
theorem tlb_cases (hu : Tlb i) : i ∈ kernelOnly ∨ ∃ acc, i = lookupOf acc := by
  unfold Tlb at hu
  cases i
  case tlblookupR => exact .inr ⟨.R, rfl⟩
  case tlblookupW => exact .inr ⟨.W, rfl⟩
  case tlblookupX => exact .inr ⟨.X, rfl⟩
  case tlbfill | tlbprobe | tlbinvPage | tlbinvAsid | tlbinvGlobal | tlbinvAll => exact .inl (by decide)
  all_goals exact absurd hu (by decide)

/-- A privileged TLB command raises PRIV at U, or RANGE (47_tlb.md R2011). -/
theorem exec_kernelOnly_raisesOnly (hi : i ∈ kernelOnly) (hr : .range ∈ es) (hp : s.req.priv = .U → .priv ∈ es) :
    RaisesOnly s es (exec i s) := by
  simp only [kernelOnly, List.mem_cons, List.not_mem_nil, or_false] at hi
  rcases hi with rfl | rfl | rfl | rfl | rfl | rfl
  · exact .needKernel (.needAsid (.needDesc (.ok _ _ _) hr) hr) hp
  · exact .needKernel (.ok _ _ _) hp
  · exact .needKernel (.needAsid (.ok _ _ _) hr) hp
  · exact .needKernel (.needAsid (.ok _ _ _) hr) hp
  · exact .needKernel (.ok _ _ _) hp
  · exact .needKernel (.ok _ _ _) hp

/-- A lookup raises RANGE, TLB_MISS or TLB_PERM (47_tlb.md R2011). -/
theorem exec_lookup_raisesOnly (acc : Access) (s : State) :
    RaisesOnly s [.range, .tlbMiss, .tlbPerm] (exec (lookupOf acc) s) := by
  rw [exec_lookupOf]
  refine .needAsid ?_ (by decide)
  split
  · exact .ok _ _ _
  next e h =>
    rcases translate_error h with rfl | rfl
    · exact .fault _ _ (by decide)
    · exact .fault _ _ (by decide)

/-- A CSR command raises RANGE, or PRIV on ASID at U (48_csr.md R2102). -/
theorem exec_csr_raisesOnly (hu : Spec.Csr i) (hr : .range ∈ es)
    (hp : s.req.imm = 1 → s.req.priv = .U → .priv ∈ es) : RaisesOnly s es (exec i s) := by
  unfold Spec.Csr at hu
  cases i
  case csrrd => exact .needCsr (fun _ => .ok _ _ _) hr hp
  case csrwr =>
    refine .needCsr (fun c => ?_) hr hp
    split
    · exact .ok _ _ _
    · exact .fault _ _ hr
  all_goals exact absurd hu (by decide)

/-- The commands of the other units never raise FPE, and raise PRIV only at U (60_exceptions.md R2200, R2212). -/
theorem exec_not_fpu_raisesOnly (hf : ¬Fpu i) (hes : [.illegalImm, .range, .tlbMiss, .tlbPerm] ⊆ es)
    (hp : s.req.priv = .U → .priv ∈ es) : RaisesOnly s es (exec i s) := by
  have hr : .range ∈ es := hes (by decide)
  rcases unit_cases i with hu | hu | hu | hu
  · exact absurd hu hf
  · exact (exec_simd_raisesOnly hu).mono (List.Subset.trans (by decide) hes)
  · rcases tlb_cases hu with hk | ⟨acc, rfl⟩
    · exact exec_kernelOnly_raisesOnly hk hr hp
    · exact (exec_lookup_raisesOnly acc s).mono (List.Subset.trans (by decide) hes)
  · exact exec_csr_raisesOnly hu hr fun _ => hp

end

/-- Settles O16: FPE comes from FPCOMMIT, any other fault is raised on the state unchanged. -/
theorem faultHasNoPartialEffect : Obligations.FaultHasNoPartialEffect := by
  intro i s t h hs
  by_cases hf : Fpu i
  · obtain ⟨r, hr | ⟨-, hr, hb⟩⟩ := exec_fpu_resp hf h
    · rw [hr] at hs
      cases hs
    · rw [hr]
      exact ⟨rfl, rfl, hb.asid, hb.tlb, hb.rr, absurd rfl, fun _ => ⟨r.2, rfl, hb⟩⟩
  · have ha : RaisesOnly s [.priv, .illegalImm, .range, .tlbMiss, .tlbPerm] (exec i s) :=
      exec_not_fpu_raisesOnly hf (by decide) fun _ => by decide
    rw [h] at ha
    have h7 := ha.fcode_ne (c := 7) (by decide) (by decide)
    obtain ⟨e, -, v, rfl⟩ := ha.eq_raise hs
    exact ⟨rfl, rfl, rfl, rfl, rfl, fun _ => rfl, fun hc => absurd hc h7⟩

/-! ### The commands with an immediate -/

/-- The SIMD commands of form VI (43_simd_minmax.md R1501). -/
def immediateCommands : List Instr :=
  [.vminiB, .vminiBu, .vminiH, .vminiHu, .vminiW, .vminiWu, .vminiD, .vminiDu, .vmaxiB, .vmaxiBu, .vmaxiH, .vmaxiHu,
    .vmaxiW, .vmaxiWu, .vmaxiD, .vmaxiDu]

theorem mem_immediateCommands {i : Instr} (h : hasOp i 2 [0x0B, 0x0C]) : i ∈ immediateCommands := by
  unfold hasOp at h
  cases i
  case vminiB | vminiBu | vminiH | vminiHu | vminiW | vminiWu | vminiD | vminiDu | vmaxiB | vmaxiBu | vmaxiH |
      vmaxiHu | vmaxiW | vmaxiWu | vmaxiD | vmaxiDu => decide
  all_goals exact absurd h (by decide)

/-- A SIMD command of another form completes (42_simd_lanewise.md R1400). -/
theorem exec_simd_completes {i : Instr} (hu : Simd i) (ho : i.fields.op ∉ ([0x0B, 0x0C] : List (BitVec 8)))
    (s : State) : ∃ v, exec i s = .next (respondVec s v) := by
  by_cases hc : ReadsVc i
  · obtain ⟨v, hv, -⟩ := exec_vv3 (s := s) hc rfl rfl rfl
    exact ⟨v, hv⟩
  · obtain ⟨v, hv, -⟩ := exec_vv2 (s := s) ⟨hu, ho⟩ hc rfl rfl
    exact ⟨v, hv⟩

theorem mem_immediateCommands_of_fault {i : Instr} {s t : State} (hu : Simd i) (h : exec i s = .next t)
    (hs : t.resp.status = .FAULT) : i ∈ immediateCommands := by
  by_contra hi
  obtain ⟨v, hv⟩ := exec_simd_completes hu (fun ho => hi (mem_immediateCommands ⟨hu, ho⟩)) s
  cases h.symm.trans hv
  cases hs

/-! ### The faults of each unit -/

section
variable {i : Instr} {s t : State} (h : exec i s = .next t) (hs : t.resp.status = .FAULT)
include h hs

theorem fpu_fault_fpe (hu : Fpu i) : t.resp.fcode = 7 ∧ enables s ≠ 0 := by
  obtain ⟨r, hr | ⟨he, hr, -⟩⟩ := exec_fpu_resp hu h
  · rw [hr] at hs
    cases hs
  · refine ⟨congrArg Response.fcode hr, fun h0 => he ?_⟩
    rw [h0]
    exact BitVec.and_zero

/-- FCODE of a fault is that of one of the faults listed for the command. -/
theorem fcode_mem_of_raisesOnly {es : List FaultCode} (ha : RaisesOnly s es (exec i s)) :
    t.resp.fcode ∈ es.map (·.code) := by
  obtain ⟨e, he, v, rfl⟩ := (h ▸ ha).eq_raise hs
  exact List.mem_map_of_mem he

theorem simd_fault_illegalImm (hu : Simd i) : t.resp.fcode = 3 ∧ i ∈ immediateCommands :=
  ⟨List.mem_singleton.mp (fcode_mem_of_raisesOnly h hs (exec_simd_raisesOnly hu)),
    mem_immediateCommands_of_fault hu h hs⟩

theorem tlb_fault_listed (hu : Tlb i) : t.resp.fcode = 2 ∧ i ∈ kernelOnly ∨ t.resp.fcode = 4 ∨
    (t.resp.fcode = 5 ∨ t.resp.fcode = 6) ∧ i ∈ ([.tlblookupR, .tlblookupW, .tlblookupX] : List Instr) := by
  rcases tlb_cases hu with hk | ⟨acc, rfl⟩
  · have hc := fcode_mem_of_raisesOnly h hs
      (exec_kernelOnly_raisesOnly (es := [.priv, .range]) hk (by decide) fun _ => by decide)
    rcases List.mem_pair.mp hc with hc | hc
    · exact .inl ⟨hc, hk⟩
    · exact .inr (.inl hc)
  · have hl : lookupOf acc ∈ ([.tlblookupR, .tlblookupW, .tlblookupX] : List Instr) := by cases acc <;> decide
    rcases List.mem_cons.mp (fcode_mem_of_raisesOnly h hs (exec_lookup_raisesOnly acc s)) with hc | hc
    · exact .inr (.inl hc)
    · exact .inr (.inr ⟨List.mem_pair.mp hc, hl⟩)

theorem csr_fault_listed (hu : Spec.Csr i) : t.resp.fcode = 2 ∨ t.resp.fcode = 4 :=
  List.mem_pair.mp (fcode_mem_of_raisesOnly h hs
    (exec_csr_raisesOnly (es := [.priv, .range]) hu (by decide) fun _ _ => by decide))

end

/-- Settles O17, unit by unit. -/
theorem faultsComeFromListedCommands : Obligations.FaultsComeFromListedCommands := fun _ _ _ h hs =>
  ⟨fpu_fault_fpe h hs, simd_fault_illegalImm h hs, tlb_fault_listed h hs, csr_fault_listed h hs⟩

/-! ### The levels -/

section
variable {s t : State}

/-- A command that raises a fault without writing CAUSE has changed nothing (60_exceptions.md R2203). -/
theorem sameUnit_of_raises {i : Instr} {c : BitVec 8} {v : Word} (hr : Raises i s c v) (h : exec i s = .next t) :
    SameUnit s t := by
  obtain ⟨u, hu, -, hsame⟩ := hr
  cases h.symm.trans hu
  exact hsame

/-- At U a TLB command is refused or is a lookup (60_exceptions.md R2212). -/
theorem exec_tlb_user_frame {i : Instr} (hp : s.req.priv = .U) (hu : Tlb i) (h : exec i s = .next t) :
    SameUnit s t := by
  rcases tlb_cases hu with hk | ⟨acc, rfl⟩
  · exact sameUnit_of_raises (raises_priv_of_user hp hk) h
  · exact tlbLookup_frame ((exec_lookupOf acc s).symm.trans h)

/-- At U `csrwr` writes FCSR or is refused (48_csr.md R2102). -/
theorem csrwr_user_keeps_asid (hp : s.req.priv = .U) (h : exec .csrwr s = .next t) : t.asid = s.asid := by
  by_cases h0 : s.req.imm = 0
  · by_cases hx : csrValueLegal s.cfg .fcsr s.req.xa = true
    · cases h.symm.trans (exec_csrwr_of_legal (needCsr_fcsr h0) hx)
      rfl
    · exact (sameUnit_of_raises (csrwr_raises_range_of_illegal (needCsr_fcsr h0) hx) h).asid
  by_cases h1 : s.req.imm = 1
  · exact (sameUnit_of_raises (raises_priv_of_user_asid h1 hp (by decide)) h).asid
  · exact (sameUnit_of_raises (raises_range_of_unknown_csr h0 h1 (by decide)) h).asid

theorem exec_csr_user_keeps_asid {i : Instr} (hp : s.req.priv = .U) (hu : Spec.Csr i) (h : exec i s = .next t) :
    t.asid = s.asid := by
  unfold Spec.Csr at hu
  cases i
  case csrrd => exact (csrrd_frame h).asid
  case csrwr => exact csrwr_user_keeps_asid hp h
  all_goals exact absurd hu (by decide)

end

/-- Settles O18: the frames of the FPU and SIMD commands at any level, those of the TLB and CSR commands at U. -/
theorem userRequestsCannotTouchKernelState : Obligations.UserRequestsCannotTouchKernelState := by
  intro i s t hp h
  rcases unit_cases i with hu | hu | hu | hu
  · obtain ⟨⟨_, _, hb⟩, -⟩ := exec_fpu_frame hu h
    exact ⟨hb.asid, hb.tlb, hb.rr⟩
  · obtain ⟨hsame, -⟩ := exec_simd_frame hu h
    exact ⟨hsame.asid, hsame.tlb, hsame.rr⟩
  · have hsame := exec_tlb_user_frame hp hu h
    exact ⟨hsame.asid, hsame.tlb, hsame.rr⟩
  · obtain ⟨htlb, hrr, -⟩ := exec_csr_frame hu h
    exact ⟨exec_csr_user_keeps_asid hp hu h, htlb, hrr⟩

/-- At K no command raises PRIV (60_exceptions.md R2212). -/
theorem kernel_fcode_ne_priv {i : Instr} {s t : State} (hp : s.req.priv = .K) (h : exec i s = .next t) :
    t.resp.fcode ≠ 2 := by
  by_cases hf : Fpu i
  · obtain ⟨r, hr | ⟨-, hr, -⟩⟩ := exec_fpu_resp hf h
    · rw [hr]
      exact (by decide : (0 : BitVec 8) ≠ 2)
    · rw [hr]
      exact (by decide : (7 : BitVec 8) ≠ 2)
  · have ha : RaisesOnly s [.illegalImm, .range, .tlbMiss, .tlbPerm] (exec i s) :=
      exec_not_fpu_raisesOnly hf (List.Subset.refl _) (by simp [hp])
    exact (h ▸ ha).fcode_ne (by decide) (by decide)

/-- A lookup raises PRIV at neither level (60_exceptions.md R2212). -/
theorem lookup_fcode_ne_priv {acc : Access} {s t : State} (h : exec (lookupOf acc) s = .next t) : t.resp.fcode ≠ 2 :=
  (h ▸ exec_lookup_raisesOnly acc s).fcode_ne (by decide) (by decide)

/-- `csrrd` and `csrwr` of FCSR raise PRIV at neither level (60_exceptions.md R2212). -/
theorem csr_fcsr_fcode_ne_priv {i : Instr} {s t : State} (hu : Spec.Csr i) (h0 : s.req.imm = 0)
    (h : exec i s = .next t) : t.resp.fcode ≠ 2 := by
  have ha : RaisesOnly s [.range] (exec i s) := exec_csr_raisesOnly hu (by decide) (by simp [h0])
  exact (h ▸ ha).fcode_ne (by decide) (by decide)

/-- Settles O19: the level is the first check of the privileged commands, and of ASID after its number; no other check
raises PRIV. -/
theorem kernelOnlyCommandsTrapAtUser : Obligations.KernelOnlyCommandsTrapAtUser := by
  refine ⟨fun s hp => ⟨fun i => raises_priv_of_user hp, fun h1 => ⟨raises_priv_of_user_asid h1 hp (by decide),
    raises_priv_of_user_asid h1 hp (by decide)⟩⟩, fun _ _ _ => kernel_fcode_ne_priv, fun i s t hi h => ?_⟩
  rcases hi with ⟨rfl | rfl, h0⟩ | rfl | rfl | rfl
  · exact csr_fcsr_fcode_ne_priv (i := .csrrd) rfl h0 h
  · exact csr_fcsr_fcode_ne_priv (i := .csrwr) rfl h0 h
  · exact lookup_fcode_ne_priv (acc := .R) h
  · exact lookup_fcode_ne_priv (acc := .W) h
  · exact lookup_fcode_ne_priv (acc := .X) h

end Sys2Proof.Proofs.Faults
end
